-- ==== Sys2Proof/Word.lean ====
section
/-! DEFINITION. The word types of the block: register bytes, command words, bus request words and response data. -/

namespace Sys2Proof

/-- A register value or a register address of the chip (00_scope R6: 8 bits each). -/
abbrev Byte := BitVec 8

/-- A command word `CMD` (30_encoding R90: 16 bits, bit 0 least significant). -/
abbrev CmdWord := BitVec 16

/-- A packed bus request `REQ` (30_encoding R108: 28 bits). -/
abbrev ReqWord := BitVec 28

/-- The data word of a response, and the accumulator (30_encoding R90; 10_state R25: 32 bits). -/
abbrev Data := BitVec 32

end Sys2Proof
end

