-- ==== Sys2Proof/Syntax.lean ====
section
/-! DEFINITION. The instructions: one constructor per row of the opcode table (30_encoding R93, R107, R110), and the twelve
operation names of the sequencer (10_state R23). Operands are the codes of the words (30_encoding R104: "operand codes are field
codes"). -/

namespace Sys2Proof

/-- The twelve values of `SEQ.OP` (10_state R23). -/
inductive Op where
  | new | reset | enable | available | read | setLdo | getLdo | setGain | getGain | setRate | getRate | calibrate
deriving DecidableEq, Repr

/-- One constructor per row of the opcode table. The first twelve are the host's commands, `newDefault` is the
pseudo-instruction, the last three are the bus requests the block issues. -/
inductive Instr where
  /-- NEW ldo, gain, rate (R165). -/
  | new (ldo : BitVec 4) (gain rate : BitVec 3)
  /-- RESET (R167). -/
  | reset
  /-- ENABLE pwr (R168). -/
  | enable (pwr : Bool)
  /-- AVAILABLE (R180). -/
  | available
  /-- READ (R181). -/
  | read
  /-- SET_LDO ldo (R190). -/
  | setLdo (ldo : BitVec 4)
  /-- GET_LDO (R191). -/
  | getLdo
  /-- SET_GAIN gain (R192). -/
  | setGain (gain : BitVec 3)
  /-- GET_GAIN (R193). -/
  | getGain
  /-- SET_RATE rate (R194). -/
  | setRate (rate : BitVec 3)
  /-- GET_RATE (R195). -/
  | getRate
  /-- CALIBRATE mode (R205). -/
  | calibrate (mode : BitVec 2)
  /-- NEW_DEFAULT (R107, R166). -/
  | newDefault
  /-- BUS_WRITE: `write_register(addr, data)` (R110, R151). -/
  | busWrite (addr data : Byte)
  /-- BUS_READ1: `read_register(addr)` (R110, R150). -/
  | busRead1 (addr : Byte)
  /-- BUS_READ3: the result burst (R110, R152). -/
  | busRead3
deriving DecidableEq, Repr

/-- A word of one of the two layers that the opcode table encodes: a host command word, or a packed bus request. -/
inductive TableWord where
  | cmd (w : CmdWord)
  | req (q : ReqWord)
deriving DecidableEq, Repr

end Sys2Proof
end

