-- ==== Sys2Proof/Config.lean ====
section
/-! DEFINITION. What is fixed for the machine and is not state: the type of a bit field, the names of the chip's fields, the
configuration enumerations, the open parameters of 00_scope R7, and the free values of a block reset. The numbers (field
positions, code tables, delays) are in Machine/Params.lean. -/

namespace Sys2Proof

/-- A bit field (00_scope R11): register address, offset of the least significant bit, width, with `lsb + width <= 8`. -/
structure BitField where
  /-- Address of the register the field is in. -/
  reg : Byte
  /-- Offset of the field's least significant bit. -/
  lsb : Nat
  /-- Number of bits. -/
  width : Nat
  /-- The field lies inside its byte. -/
  fits : lsb + width ≤ 8 := by decide
deriving DecidableEq, Repr

/-- The bit ranges of the field tables of 10_state R34 to R41, by the spec's mnemonics; the rows the tables call reserved or
not named have the names that begin `rsv`. -/
inductive FieldName where
  | rr | pud | pua | pur | cs | cr | oscs | avdds            -- PU_CTRL (R34)
  | gains | vldo | drdySel | crp                              -- CTRL1 (R35)
  | calmod | cals | calErr | crs | chs                        -- CTRL2 (R36)
  | adcoB2 | adcoB1 | adcoB0                                  -- result bytes (R37)
  | regChp | adcVcm | regChps | rsvAdcReg                     -- ADC_REG (R38)
  | pgaChpDis | rsvPga | pgaInv | pgaBypassEn | pgaOutEn | ldoMode | rdOtpSel   -- PGA (R39)
  | pgaCurr | adcCurr | masterBiasCurr | pgaCapEn             -- PWR_CTRL (R40)
  | revId | rsvRev                                            -- REV (R41)
deriving DecidableEq, Repr

/-- Gain settings (40_codec R136). -/
inductive Gain where
  | g1 | g2 | g4 | g8 | g16 | g32 | g64 | g128
deriving DecidableEq, Repr

/-- Reference settings (40_codec R137): eight internal levels and External. -/
inductive Ldo where
  | l4v5 | l4v2 | l3v9 | l3v6 | l3v3 | l3v0 | l2v7 | l2v4 | ext
deriving DecidableEq, Repr

/-- Sample rates (40_codec R138). -/
inductive Rate where
  | sps10 | sps20 | sps40 | sps80 | sps320
deriving DecidableEq, Repr

/-- Calibration modes (40_codec R139). -/
inductive CalMode where
  | internal | offset | gain
deriving DecidableEq, Repr

/-- All members of each enumeration, in the order of its table. -/
def Gain.all : List Gain := [.g1, .g2, .g4, .g8, .g16, .g32, .g64, .g128]
/-- All reference settings. -/
def Ldo.all : List Ldo := [.l4v5, .l4v2, .l3v9, .l3v6, .l3v3, .l3v0, .l2v7, .l2v4, .ext]
/-- All sample rates. -/
def Rate.all : List Rate := [.sps10, .sps20, .sps40, .sps80, .sps320]
/-- All calibration modes. -/
def CalMode.all : List CalMode := [.internal, .offset, .gain]

/-- `CAL_POLL_BOUND` (00_scope R7; 45_calibrate R206 item 3): none. CALIBRATE's table has no bound, so nothing reads this. -/
def Config.calPollBound : Option Nat := none

/-- `RMW_FRESH` (00_scope R7; 92_eei_decisions D9): every write is preceded by a fresh read. The step tables are written for it. -/
def Config.rmwFresh : Bool := true

/-! The values 10_state R44 calls unspecified after block reset (93 U11 "any value"): free values, one of each per block reset,
selected by the counter `freeCtr` of the state. Assumption log 5. -/

/-- Free value of `T` after the n-th block reset. -/
opaque Config.freeT : Nat → Byte
/-- Free value of `ACC`. -/
opaque Config.freeAcc : Nat → Data
/-- Free value of `A_LDO`. -/
opaque Config.freeLdo : Nat → BitVec 4
/-- Free value of `A_GAIN`. -/
opaque Config.freeGain : Nat → BitVec 3
/-- Free value of `A_RATE`. -/
opaque Config.freeRate : Nat → BitVec 3
/-- Free value of `A_MODE`. -/
opaque Config.freeMode : Nat → BitVec 2
/-- Free value of `A_PWR`. -/
opaque Config.freePwr : Nat → Bool

end Sys2Proof
end

