-- ==== Sys2Proof/Machine/Params.lean ====
section
/-! DEFINITION. The numbers of the machine: the parameters the source fixes (00_scope R6), the register addresses (10_state R30),
the field positions FIELD_POS with REG_OF_AVDDS and REG_OF_CAL (10_state R34 to R41) and the enumeration code tables
(40_codec R136 to R139). All of it is configuration, none of it state (10_state R28). -/

namespace Sys2Proof.Params

/-- `DEV_ADDR`, the chip's bus address (00_scope R6; 20_memory R72). -/
def devAddr : BitVec 7 := 0x2A
/-- `REV_ID`, the expected revision nibble (00_scope R6). -/
def revIdExpected : BitVec 4 := 0xF
/-- `T_RESET_HOLD` in ms (00_scope R6). -/
def tResetHold : BitVec 10 := 10
/-- `T_RESET_REL` in ms. -/
def tResetRel : BitVec 10 := 1
/-- `T_POWERUP` in ms. -/
def tPowerUp : BitVec 10 := 600
/-- `T_CAL_POLL` in ms. -/
def tCalPoll : BitVec 10 := 10

/-- `PU_CTRL` (10_state R30, R34). -/
def puCtrl : Byte := 0x00
/-- `CTRL1` (R35). -/
def ctrl1 : Byte := 0x01
/-- `CTRL2` (R36). -/
def ctrl2 : Byte := 0x02
/-- `ADCO_B2`, first of the three result bytes (R37). -/
def adcoB2 : Byte := 0x12
/-- `ADC_REG` (R38). -/
def adcReg : Byte := 0x15
/-- `PGA` (R39). -/
def pga : Byte := 0x1B
/-- `PWR_CTRL` (R40). -/
def pwrCtrl : Byte := 0x1C
/-- `REV` (R41). -/
def rev : Byte := 0x1F

/-- `FIELD_POS` (00_scope R7): the field tables of 10_state R34 to R41. Every offset but that of `REVID` is the spec's
parameter taken from general knowledge (10_state R31; 92 D18; 93 G2). PRESUMED by the spec itself; assumption log 9. -/
def fieldPos : FieldName → BitField
  | .rr => { reg := 0x00, lsb := 0, width := 1 }
  | .pud => { reg := 0x00, lsb := 1, width := 1 }
  | .pua => { reg := 0x00, lsb := 2, width := 1 }
  | .pur => { reg := 0x00, lsb := 3, width := 1 }
  | .cs => { reg := 0x00, lsb := 4, width := 1 }
  | .cr => { reg := 0x00, lsb := 5, width := 1 }
  | .oscs => { reg := 0x00, lsb := 6, width := 1 }
  | .avdds => { reg := 0x00, lsb := 7, width := 1 }
  | .gains => { reg := 0x01, lsb := 0, width := 3 }
  | .vldo => { reg := 0x01, lsb := 3, width := 3 }
  | .drdySel => { reg := 0x01, lsb := 6, width := 1 }
  | .crp => { reg := 0x01, lsb := 7, width := 1 }
  | .calmod => { reg := 0x02, lsb := 0, width := 2 }
  | .cals => { reg := 0x02, lsb := 2, width := 1 }
  | .calErr => { reg := 0x02, lsb := 3, width := 1 }
  | .crs => { reg := 0x02, lsb := 4, width := 3 }
  | .chs => { reg := 0x02, lsb := 7, width := 1 }
  | .adcoB2 => { reg := 0x12, lsb := 0, width := 8 }
  | .adcoB1 => { reg := 0x13, lsb := 0, width := 8 }
  | .adcoB0 => { reg := 0x14, lsb := 0, width := 8 }
  | .regChp => { reg := 0x15, lsb := 0, width := 2 }
  | .adcVcm => { reg := 0x15, lsb := 2, width := 2 }
  | .regChps => { reg := 0x15, lsb := 4, width := 2 }
  | .rsvAdcReg => { reg := 0x15, lsb := 6, width := 2 }
  | .pgaChpDis => { reg := 0x1B, lsb := 0, width := 1 }
  | .rsvPga => { reg := 0x1B, lsb := 1, width := 2 }
  | .pgaInv => { reg := 0x1B, lsb := 3, width := 1 }
  | .pgaBypassEn => { reg := 0x1B, lsb := 4, width := 1 }
  | .pgaOutEn => { reg := 0x1B, lsb := 5, width := 1 }
  | .ldoMode => { reg := 0x1B, lsb := 6, width := 1 }
  | .rdOtpSel => { reg := 0x1B, lsb := 7, width := 1 }
  | .pgaCurr => { reg := 0x1C, lsb := 0, width := 2 }
  | .adcCurr => { reg := 0x1C, lsb := 2, width := 2 }
  | .masterBiasCurr => { reg := 0x1C, lsb := 4, width := 3 }
  | .pgaCapEn => { reg := 0x1C, lsb := 7, width := 1 }
  | .revId => { reg := 0x1F, lsb := 0, width := 4 }
  | .rsvRev => { reg := 0x1F, lsb := 4, width := 4 }

/-- `REG_OF_AVDDS` (00_scope R7): the register of the internal-reference-enable bit. -/
def regOfAvdds : Byte := (fieldPos .avdds).reg

/-- `REG_OF_CAL` (00_scope R7): the one register of calibration mode, start and error. -/
def regOfCal : Byte := (fieldPos .cals).reg

/-- `GAIN_CODE`: gain `2^k` has code `k` (40_codec R136; 93 G5). Assumption log 10. -/
def encGain : Gain → BitVec 3
  | .g1 => 0 | .g2 => 1 | .g4 => 2 | .g8 => 3 | .g16 => 4 | .g32 => 5 | .g64 => 6 | .g128 => 7

/-- Operand codes of the reference option: the `VLDO` code of an internal level, 8 for External (40_codec R137; 93 G6; 92 D4). -/
def encLdo : Ldo → BitVec 4
  | .l4v5 => 0 | .l4v2 => 1 | .l3v9 => 2 | .l3v6 => 3 | .l3v3 => 4 | .l3v0 => 5 | .l2v7 => 6 | .l2v4 => 7 | .ext => 8

/-- `CRS` codes (40_codec R138; 93 G7): 0, 1, 2, 3 and 7. -/
def encRate : Rate → BitVec 3
  | .sps10 => 0 | .sps20 => 1 | .sps40 => 2 | .sps80 => 3 | .sps320 => 7

/-- `CALMOD` codes (40_codec R139; 92 D27): 0, 2 and 3. -/
def encCalMode : CalMode → BitVec 2
  | .internal => 0 | .offset => 2 | .gain => 3

/-- The amplification a gain setting stands for (40_codec R136). -/
def gainFactor : Gain → Nat
  | .g1 => 1 | .g2 => 2 | .g4 => 4 | .g8 => 8 | .g16 => 16 | .g32 => 32 | .g64 => 64 | .g128 => 128

/-- The internal reference level in millivolts, none for External (40_codec R137). -/
def ldoMillivolts : Ldo → Option Nat
  | .l4v5 => some 4500 | .l4v2 => some 4200 | .l3v9 => some 3900 | .l3v6 => some 3600 | .l3v3 => some 3300
  | .l3v0 => some 3000 | .l2v7 => some 2700 | .l2v4 => some 2400 | .ext => none

/-- Samples per second (40_codec R138). -/
def rateSps : Rate → Nat
  | .sps10 => 10 | .sps20 => 20 | .sps40 => 40 | .sps80 => 80 | .sps320 => 320

/-- The reference of NEW_DEFAULT: 3.3 V (00_scope R6; 30_encoding R107). -/
def defaultLdo : BitVec 4 := encLdo .l3v3
/-- The gain of NEW_DEFAULT: x128. -/
def defaultGain : BitVec 3 := encGain .g128
/-- The rate of NEW_DEFAULT: 80 samples per second. -/
def defaultRate : BitVec 3 := encRate .sps80

end Sys2Proof.Params
end

