-- ==== Sys2Proof/Machine/AddressMap.lean ====
section
/-! DEFINITION. The chip's register address map (20_memory R70, R71) and the addresses the controller reaches (10_state R30;
20_memory R61). The registers' contents are the chip's, outside the block. -/

namespace Sys2Proof.AddressMap

/-- The entries of the address map, by the source's names (R70). -/
inductive RegName where
  | powerControl | control1 | control2
  | offsetCalibration1 | gainCalibration1 | offsetCalibration2 | gainCalibration2
  | i2cControl | adcOutput | afeOtpShared | otp | pga | powerControl2 | deviceRevision
deriving DecidableEq, Repr

/-- The entry at an address; none for the addresses the map does not list (R71). -/
def nameAt (a : Byte) : Option RegName :=
  let n := a.toNat
  if n = 0x00 then some .powerControl
  else if n = 0x01 then some .control1
  else if n = 0x02 then some .control2
  else if n ≤ 0x05 then some .offsetCalibration1
  else if n ≤ 0x09 then some .gainCalibration1
  else if n ≤ 0x0C then some .offsetCalibration2
  else if n ≤ 0x10 then some .gainCalibration2
  else if n = 0x11 then some .i2cControl
  else if n ≤ 0x14 then some .adcOutput
  else if n = 0x15 then some .afeOtpShared
  else if n ≤ 0x17 then some .otp
  else if n = 0x1B then some .pga
  else if n = 0x1C then some .powerControl2
  else if n = 0x1F then some .deviceRevision
  else none

/-- Addresses of single-byte reads the block issues (20_memory R61; 30_encoding R110). -/
def readAddrs : List Byte := [0x00, 0x01, 0x02, 0x15, 0x1B, 0x1C, 0x1F]

/-- Addresses of single-byte writes the block issues: as the reads, without `REV`, which is never written (10_state R41). -/
def writeAddrs : List Byte := [0x00, 0x01, 0x02, 0x15, 0x1B, 0x1C]

end Sys2Proof.AddressMap
end

