-- ==== Sys2Proof/Machine/Codec.lean ====
section
/-! DEFINITION. The register bit-field codec (40_codec): pure functions on bytes. It reads no state and cannot fail, but for the
decoding of an enumeration, which is partial (R134). -/

namespace Sys2Proof.Codec

/-- `mask(F) = ((1 << width) - 1) << lsb` (00_scope R11). -/
def mask (F : BitField) : Byte := (BitVec.allOnes F.width).setWidth 8 <<< F.lsb

/-- `extract(b, F) = b[lsb+width-1 : lsb]` (R130). -/
def extract (b : Byte) (F : BitField) : BitVec F.width := b.extractLsb' F.lsb F.width

/-- `insert(b, F, v) = (b & ~mask(F)) | (v << lsb)` (R131). The type of `v` holds no over-wide value (R133). -/
def insert (b : Byte) (F : BitField) (v : BitVec F.width) : Byte :=
  (b &&& ~~~ mask F) ||| (v.setWidth 8 <<< F.lsb)

/-- A one-bit field read as a Boolean: `extract(b, F) = 1` (R142). -/
def isSet (b : Byte) (F : BitField) : Bool := extract b F == 1#F.width

/-- The value of a one-bit field from a Boolean (R142). -/
def ofBool (w : Nat) (v : Bool) : BitVec w := if v then 1 else 0

/-- `dec_GAIN`: the partial inverse of the code table (R134, R136). -/
def decGain (c : BitVec 3) : Option Gain := Gain.all.find? fun m => Params.encGain m == c

/-- `dec_LDO` of an operand code (R134, R137). -/
def decLdo (c : BitVec 4) : Option Ldo := Ldo.all.find? fun m => Params.encLdo m == c

/-- `dec_RATE` (R134, R138): fails on the reserved codes 4, 5, 6. -/
def decRate (c : BitVec 3) : Option Rate := Rate.all.find? fun m => Params.encRate m == c

/-- `dec_CALMOD` (R134, R139): fails on the reserved code 1. -/
def decCalMode (c : BitVec 2) : Option CalMode := CalMode.all.find? fun m => Params.encCalMode m == c

/-- The reference setting that the pair (`AVDDS`, `VLDO`) stands for (R137): External whenever `AVDDS` is 0. -/
def ldoOfChip (avdds : Bool) (vldo : BitVec 3) : Option Ldo :=
  if avdds then decLdo (vldo.setWidth 4) else some .ext

/-- `rev_ok(b)`: the low nibble is 0xF (R143). -/
def revOk (b : Byte) : Bool := extract b (Params.fieldPos .revId) == Params.revIdExpected

/-- `assemble24(b0, b1, b2)` (R140): the first byte received is the most significant. -/
def assemble24 (b0 b1 b2 : Byte) : Data :=
  (b0.setWidth 32 <<< 16) ||| (b1.setWidth 32 <<< 8) ||| b2.setWidth 32

/-- `sext24(a)` (R141): if bit 23 is set, OR in 0xFF000000. -/
def sext24 (a : Data) : Data := if a.getLsbD 23 then a ||| 0xFF000000 else a

end Sys2Proof.Codec
end

