-- ==== Sys2Proof/WellFormed.lean ====
section
/-! DEFINITION. Which instructions are well formed: every operand code is the code of a member of its enumeration
(30_encoding R99 to R105), and a bus request names an address the block reaches (R110). -/

namespace Sys2Proof

/-- A reference-option operand is legal: 0 to 8 (30_encoding R99). -/
def ldoLegal (c : BitVec 4) : Bool := (Codec.decLdo c).isSome

/-- A gain operand is legal: all eight codes are (R100). -/
def gainLegal (c : BitVec 3) : Bool := (Codec.decGain c).isSome

/-- A sample-rate operand is legal: 0, 1, 2, 3, 7 (R101). -/
def rateLegal (c : BitVec 3) : Bool := (Codec.decRate c).isSome

/-- A calibration-mode operand is legal: 0, 2, 3 (R102). -/
def modeLegal (c : BitVec 2) : Bool := (Codec.decCalMode c).isSome

/-- The instruction has only legal operands. -/
def Instr.wf : Instr → Bool
  | .new ldo gain rate => ldoLegal ldo && gainLegal gain && rateLegal rate
  | .reset => true
  | .enable _ => true
  | .available => true
  | .read => true
  | .setLdo ldo => ldoLegal ldo
  | .getLdo => true
  | .setGain gain => gainLegal gain
  | .getGain => true
  | .setRate rate => rateLegal rate
  | .getRate => true
  | .calibrate mode => modeLegal mode
  | .newDefault => true
  | .busWrite addr _ => AddressMap.writeAddrs.contains addr
  | .busRead1 addr => AddressMap.readAddrs.contains addr
  | .busRead3 => true

end Sys2Proof
end

