-- ==== Sys2Proof/Decode.lean ====
section
/-! DEFINITION. The decoder of command words (30_encoding R91 to R107) and of bus request words (R108, R110), total on any bits
and rejecting by name, and the encoder of both. The opcode table of R93 stands beside them as data. -/

namespace Sys2Proof

/-- Why a word is no instruction. Which of two reasons is given cannot be observed: each illegal command word gets the same
response (60_exceptions R223). -/
inductive Illegal where
  /-- `OPC` is 0x0, 0xD, 0xE or 0xF (30_encoding R93, R105). -/
  | reservedOpcode
  /-- A must-be-zero bit of the format is 1 (R92, R105). -/
  | mustBeZero
  /-- The `ldo` field is 9 to 15 (R99, R105). -/
  | ldoCode
  /-- The `gain` field is the code of no member: never, with the table of 40_codec R136. -/
  | gainCode
  /-- The `rate` field is 4, 5 or 6 (R101, R105). -/
  | rateCode
  /-- The `mode` field is 1 (R102, R105). -/
  | modeCode
  /-- A request word whose `DEV` is not 0x2A (R108). -/
  | deviceAddress
  /-- A request word that is none of the three transactions of R110. -/
  | transactionForm
  /-- A request word with a register address the block never sends (R110). -/
  | addressNotIssued
deriving DecidableEq, Repr

/-- The command a pseudo-instruction stands for: NEW_DEFAULT expands to `NEW L3V3, G128, SPS80` (R107); every other
instruction is itself. -/
def Instr.expand : Instr → Instr
  | .newDefault => .new Params.defaultLdo Params.defaultGain Params.defaultRate
  | i => i

/-- The instruction the decoder gives for the word of `i`: the word of NEW with the default operands has a row of its own in
the opcode table, NEW_DEFAULT (assumption log 13). -/
def Instr.canon (i : Instr) : Instr :=
  if i = .new Params.defaultLdo Params.defaultGain Params.defaultRate then .newDefault else i

/-! ### Command words -/

/-- Format Z (R92, R97): bits 11:0 must be zero. -/
def decodeZ (w : CmdWord) (i : Instr) : Except Illegal Instr :=
  if w.extractLsb' 0 12 = 0 then .ok i else .error .mustBeZero

/-- Format B (R92, R98). -/
def decodeB (w : CmdWord) : Except Illegal Instr :=
  if w.extractLsb' 1 11 ≠ 0 then .error .mustBeZero else .ok (.enable (w.getLsbD 0))

/-- Format L (R92, R99). -/
def decodeL (w : CmdWord) : Except Illegal Instr :=
  if w.extractLsb' 4 8 ≠ 0 then .error .mustBeZero
  else if ldoLegal (w.extractLsb' 0 4) then .ok (.setLdo (w.extractLsb' 0 4)) else .error .ldoCode

/-- Format G (R92, R100). -/
def decodeG (w : CmdWord) : Except Illegal Instr :=
  if w.extractLsb' 3 9 ≠ 0 then .error .mustBeZero
  else if gainLegal (w.extractLsb' 0 3) then .ok (.setGain (w.extractLsb' 0 3)) else .error .gainCode

/-- Format S (R92, R101). -/
def decodeS (w : CmdWord) : Except Illegal Instr :=
  if w.extractLsb' 3 9 ≠ 0 then .error .mustBeZero
  else if rateLegal (w.extractLsb' 0 3) then .ok (.setRate (w.extractLsb' 0 3)) else .error .rateCode

/-- Format C (R92, R102). -/
def decodeC (w : CmdWord) : Except Illegal Instr :=
  if w.extractLsb' 2 10 ≠ 0 then .error .mustBeZero
  else if modeLegal (w.extractLsb' 0 2) then .ok (.calibrate (w.extractLsb' 0 2)) else .error .modeCode

/-- Format N (R92, R103); the word of the default operands is the row NEW_DEFAULT (R107). -/
def decodeN (w : CmdWord) : Except Illegal Instr :=
  let ldo : BitVec 4 := w.extractLsb' 0 4
  let gain : BitVec 3 := w.extractLsb' 4 3
  let rate : BitVec 3 := w.extractLsb' 7 3
  if w.extractLsb' 10 2 ≠ 0 then .error .mustBeZero
  else if !ldoLegal ldo then .error .ldoCode
  else if !gainLegal gain then .error .gainCode
  else if !rateLegal rate then .error .rateCode
  else .ok (Instr.new ldo gain rate).canon

/-- The command decoder (R95): total, by the opcode field and the format alone, reading no state. -/
def decodeCmd (w : CmdWord) : Except Illegal Instr :=
  match w.extractLsb' 12 4 with
  | 0x1#4 => decodeN w
  | 0x2#4 => decodeZ w .reset
  | 0x3#4 => decodeB w
  | 0x4#4 => decodeZ w .available
  | 0x5#4 => decodeZ w .read
  | 0x6#4 => decodeL w
  | 0x7#4 => decodeZ w .getLdo
  | 0x8#4 => decodeG w
  | 0x9#4 => decodeZ w .getGain
  | 0xA#4 => decodeS w
  | 0xB#4 => decodeZ w .getRate
  | 0xC#4 => decodeC w
  | _ => .error .reservedOpcode

/-! ### Bus request words -/

/-- The fields of a bus request (R108), in the order in which they are packed. -/
structure BusReq where
  /-- 0 = `write`, 1 = `write_read`. -/
  kind : BitVec 1
  /-- Device address. -/
  dev : BitVec 7
  /-- Number of bytes to write. -/
  wlen : BitVec 2
  /-- First byte written: a register address. -/
  wb0 : Byte
  /-- Second byte written: the data byte of a `write`, 0 otherwise. -/
  wb1 : Byte
  /-- Number of bytes to read. -/
  rlen : BitVec 2
deriving DecidableEq, Repr

/-- The packed word `REQ` (R108): `KIND` in bit 27 down to `RLEN` in bits 1:0. -/
def packReq (r : BusReq) : ReqWord := r.kind ++ r.dev ++ r.wlen ++ r.wb0 ++ r.wb1 ++ r.rlen

/-- The fields of a packed word. -/
def unpackReq (q : ReqWord) : BusReq where
  kind := q.extractLsb' 27 1
  dev := q.extractLsb' 20 7
  wlen := q.extractLsb' 18 2
  wb0 := q.extractLsb' 10 8
  wb1 := q.extractLsb' 2 8
  rlen := q.extractLsb' 0 2

/-- `write_register(a, v)` as a request (R110, R151). -/
def writeReq (a v : Byte) : BusReq := { kind := 0, dev := Params.devAddr, wlen := 2, wb0 := a, wb1 := v, rlen := 0 }

/-- `read_register(a)` as a request (R110, R150). -/
def readReq (a : Byte) : BusReq := { kind := 1, dev := Params.devAddr, wlen := 1, wb0 := a, wb1 := 0, rlen := 1 }

/-- The result burst as a request (R110, R152). -/
def burstReq : BusReq := { kind := 1, dev := Params.devAddr, wlen := 1, wb0 := Params.adcoB2, wb1 := 0, rlen := 3 }

/-- The decoder of request words: the three transactions of R110, by name what is none of them. -/
def decodeReq (q : ReqWord) : Except Illegal Instr :=
  let r := unpackReq q
  if r.dev ≠ Params.devAddr then .error .deviceAddress
  else if r = writeReq r.wb0 r.wb1 then
    if AddressMap.writeAddrs.contains r.wb0 then .ok (.busWrite r.wb0 r.wb1) else .error .addressNotIssued
  else if r = readReq r.wb0 then
    if AddressMap.readAddrs.contains r.wb0 then .ok (.busRead1 r.wb0) else .error .addressNotIssued
  else if r = burstReq then .ok .busRead3
  else .error .transactionForm

/-- The decoder of both layers of words. -/
def decode : TableWord → Except Illegal Instr
  | .cmd w => decodeCmd w
  | .req q => decodeReq q

/-- The instruction the decoder reads from an opcode-table word of `nbits` bits: rows of up to 16 bits are command words, the
wider rows are request words, whose 28 bits the table numbers from 0. A word with a bit outside them is refused. -/
def decodeTableWord (nbits w : Nat) : Option Instr :=
  if nbits ≤ 16 then
    if w < 2 ^ 16 then (decodeCmd (BitVec.ofNat 16 w)).toOption else none
  else
    if w < 2 ^ 28 then (decodeReq (BitVec.ofNat 28 w)).toOption else none

/-! ### The encoder -/

/-- The word of a command of opcode `opc` with operand area `x` (R91). -/
def cmdWord (opc : BitVec 4) (x : BitVec 12) : CmdWord := opc ++ x

/-- The word of an instruction: the formats of R92 with the opcodes of R93, and the packed requests of R110. -/
def encode : Instr → TableWord
  | .new ldo gain rate => .cmd (cmdWord 0x1 ((0 : BitVec 2) ++ rate ++ gain ++ ldo))
  | .reset => .cmd (cmdWord 0x2 0)
  | .enable pwr => .cmd (cmdWord 0x3 ((0 : BitVec 11) ++ BitVec.ofBool pwr))
  | .available => .cmd (cmdWord 0x4 0)
  | .read => .cmd (cmdWord 0x5 0)
  | .setLdo ldo => .cmd (cmdWord 0x6 ((0 : BitVec 8) ++ ldo))
  | .getLdo => .cmd (cmdWord 0x7 0)
  | .setGain gain => .cmd (cmdWord 0x8 ((0 : BitVec 9) ++ gain))
  | .getGain => .cmd (cmdWord 0x9 0)
  | .setRate rate => .cmd (cmdWord 0xA ((0 : BitVec 9) ++ rate))
  | .getRate => .cmd (cmdWord 0xB 0)
  | .calibrate mode => .cmd (cmdWord 0xC ((0 : BitVec 10) ++ mode))
  | .newDefault => .cmd 0x11F4
  | .busWrite addr data => .req (packReq (writeReq addr data))
  | .busRead1 addr => .req (packReq (readReq addr))
  | .busRead3 => .req (packReq burstReq)

/-! ### The opcode table as data -/

/-- One row of the table of R93: match, mask, and the further condition on the operand fields. -/
structure CmdRow where
  op : Op
  mtch : CmdWord
  mask : CmdWord
  cond : CmdWord → Bool

/-- The condition of R93 on a `ldo` field at bits 3:0. -/
def ldoCond (w : CmdWord) : Bool := (w.extractLsb' 0 4).toNat ≤ 8

/-- The condition of R93 on a `rate` field at the given position. -/
def rateCond (lsb : Nat) (w : CmdWord) : Bool := [0, 1, 2, 3, 7].contains (w.extractLsb' lsb 3).toNat

/-- The condition of R93 on a `mode` field at bits 1:0. -/
def modeCond (w : CmdWord) : Bool := [0, 2, 3].contains (w.extractLsb' 0 2).toNat

/-- The table of R93. -/
def commandRows : List CmdRow :=
  [ ⟨.new, 0x1000, 0xFC00, fun w => ldoCond w && rateCond 7 w⟩,
    ⟨.reset, 0x2000, 0xFFFF, fun _ => true⟩,
    ⟨.enable, 0x3000, 0xFFFE, fun _ => true⟩,
    ⟨.available, 0x4000, 0xFFFF, fun _ => true⟩,
    ⟨.read, 0x5000, 0xFFFF, fun _ => true⟩,
    ⟨.setLdo, 0x6000, 0xFFF0, ldoCond⟩,
    ⟨.getLdo, 0x7000, 0xFFFF, fun _ => true⟩,
    ⟨.setGain, 0x8000, 0xFFF8, fun _ => true⟩,
    ⟨.getGain, 0x9000, 0xFFFF, fun _ => true⟩,
    ⟨.setRate, 0xA000, 0xFFF8, rateCond 0⟩,
    ⟨.getRate, 0xB000, 0xFFFF, fun _ => true⟩,
    ⟨.calibrate, 0xC000, 0xFFFC, modeCond⟩ ]

/-- A word selects a row (R93): `(w & mask) = match` and the further condition holds. -/
def CmdRow.selects (r : CmdRow) (w : CmdWord) : Bool := w &&& r.mask == r.mtch && r.cond w

/-- The operation of a host command; a bus request is none. -/
def Instr.op? : Instr → Option Op
  | .new _ _ _ => some .new
  | .reset => some .reset
  | .enable _ => some .enable
  | .available => some .available
  | .read => some .read
  | .setLdo _ => some .setLdo
  | .getLdo => some .getLdo
  | .setGain _ => some .setGain
  | .getGain => some .getGain
  | .setRate _ => some .setRate
  | .getRate => some .getRate
  | .calibrate _ => some .calibrate
  | .newDefault => some .new
  | .busWrite _ _ => none
  | .busRead1 _ => none
  | .busRead3 => none

end Sys2Proof
end

