-- ==== Sys2Proof/Machine/State.lean ====
section
/-! DEFINITION. The state of the controller (10_state R20 to R28), its ports, and the state after block reset (R44). State holds
no register of the chip: the chip is outside the block (10_state section 2; 00_scope R5). -/

namespace Sys2Proof.Machine

/-- `PHASE` (10_state R21). -/
inductive Phase where
  /-- No operation in progress, no action outstanding; one command can be accepted. -/
  | idle
  /-- One operation in progress; no command is accepted. -/
  | run
deriving DecidableEq, Repr

/-- `SEQ = (OP, STEP)` (10_state R22). It has a meaning only while `PHASE` is RUN. -/
structure Seq where
  op : Op
  step : Nat
deriving DecidableEq, Repr

/-- The answer of the transport to one bus request (30_encoding R109). -/
structure BusAnswer where
  /-- 1 = transaction done, 0 = transport error. -/
  ok : Bool
  /-- Kind of error: 0 arbitration loss, 1 NACK, 2 bus error, 3 other. Used only when `ok` is 0. -/
  errk : BitVec 2
  /-- The bytes read, in order of arrival; `rb1` and `rb2` are used for a burst only. -/
  (rb0 rb1 rb2 : Byte)
deriving DecidableEq, Repr

/-- What waits at the bus port. -/
inductive BusIn where
  /-- The answer to an action the block consumes the answer of. -/
  | answer (a : BusAnswer)
  /-- An answer that comes after block reset abandoned its action (70_reset_and_hazards R251). -/
  | late (a : BusAnswer)
deriving DecidableEq, Repr

/-- What waits at the delay port. -/
inductive DlyIn where
  /-- "done", the answer to a delay request (30_encoding R111). -/
  | done
  /-- A "done" for a delay that block reset abandoned (70_reset_and_hazards R251). -/
  | late
deriving DecidableEq, Repr

/-- `STATUS` of a response (30_encoding R113). Code 6 is never produced: it has no constructor. -/
inductive Status where
  | ok | transport | notReady | invalidData | calibrationError | revisionMismatch | refused
deriving DecidableEq, Repr

/-- One item of a trace (00_scope R14). -/
inductive TraceItem where
  /-- `RD a -> v`. -/
  | rd (a v : Byte)
  /-- `RD a -> !e`. -/
  | rdErr (a : Byte) (e : BitVec 2)
  /-- `RD3 a -> b0 b1 b2`. -/
  | rd3 (a b0 b1 b2 : Byte)
  /-- `RD3 a -> !e`. -/
  | rd3Err (a : Byte) (e : BitVec 2)
  /-- `WR a v`. -/
  | wr (a v : Byte)
  /-- `WR a v -> !e`. -/
  | wrErr (a v : Byte) (e : BitVec 2)
  /-- `DLY n`. -/
  | dly (ms : BitVec 10)
  /-- `RSP status data`. -/
  | rsp (status : Status) (data : Data)
deriving DecidableEq, Repr

/-- The controller: the tuple of 10_state R20, its ports, and one field of the model's own (`freeCtr`). `BUSY` and the
outstanding action are derived (R21, R43). -/
structure State where
  /-- `PHASE` (R21). -/
  phase : Phase
  /-- `SEQ` (R22). -/
  seq : Seq
  /-- `T`, the 8-bit working register (R24). -/
  t : Byte
  /-- `ACC`, the 32-bit working register of READ (R25). -/
  acc : Data
  /-- `A_LDO` (R26). -/
  aLdo : BitVec 4
  /-- `A_GAIN` (R26). -/
  aGain : BitVec 3
  /-- `A_RATE` (R26). -/
  aRate : BitVec 3
  /-- `A_MODE` (R26). -/
  aMode : BitVec 2
  /-- `A_PWR` (R26). -/
  aPwr : Bool
  /-- `HVALID` (R27). -/
  hvalid : Bool
  /-- The block reset input (70_reset_and_hazards R250). -/
  rst : Bool
  /-- Words waiting at the command port, the one offered first (70_reset_and_hazards R260). -/
  cmdIn : List CmdWord
  /-- Answers waiting at the bus port, oldest first (30_encoding R109). -/
  busIn : List BusIn
  /-- Answers waiting at the delay port, oldest first (30_encoding R111). -/
  dlyIn : List DlyIn
  /-- The trace so far (00_scope R14), newest item first. -/
  trace : List TraceItem
  /-- The model's own: selects the free values of the next block reset (assumption log 5). -/
  freeCtr : Nat
deriving DecidableEq, Repr

/-- Why the machine stops with a fault. -/
inductive Fault where
  /-- Raised by a transition in RUN when `SEQ` names no row of its operation's step table. The spec says `SEQ` never does
  (10_state R22), and no run from reset reaches it. Safe: the model stops where the spec says nothing. Assumption log 17. -/
  | seqOutsideTable
  /-- Raised by `step` when the outstanding request is none of the transactions of 30_encoding R110. The spec says no other is
  ever issued, and no row of a step table issues one. Safe, for the same reason. Assumption log 17. -/
  | requestNotIssued
deriving DecidableEq, Repr

/-- Why an instruction has no meaning. -/
inductive Refusal where
  /-- Raised by an arm of `exec` whose instruction has no meaning yet; no arm does now. Safe. -/
  | notModelled (mnemonic : String)
deriving DecidableEq, Repr

/-- The outcome of one transition. -/
abbrev Result := Host.Outcome State Fault Refusal

/-- The state after block reset (R44): `PHASE` IDLE, `HVALID` 0, nothing outstanding. `SEQ` has no meaning there, and `T`,
`ACC` and the latches are unspecified: the values named here are the model's (DESIGN CHOICE, unsafe; assumption log 4). The
ports are empty. -/
def State.reset : State where
  phase := .idle
  seq := { op := .new, step := 0 }
  t := 0
  acc := 0
  aLdo := 0
  aGain := 0
  aRate := 0
  aMode := 0
  aPwr := false
  hvalid := false
  rst := false
  cmdIn := []
  busIn := []
  dlyIn := []
  trace := []
  freeCtr := 0

end Sys2Proof.Machine
end

