-- ==== Sys2Proof/Machine/Flags.lean ====
section
/-! DEFINITION. Field access to the working register `T` (00_scope R12: `T.F`) and the flags of 10_state R42. The block has no
condition codes; a chip flag is a bit of the byte just read into `T`, never a remembered value. -/

namespace Sys2Proof.Machine

open Sys2Proof.Codec

/-- `BUSY`: 1 exactly when `PHASE` is RUN (10_state R21). -/
def State.busy (s : State) : Bool := s.phase == .run

/-- `T <- v`. -/
def State.load (s : State) (v : Byte) : State := { s with t := v }

/-- `T.F`, read (00_scope R12). -/
def State.getField (s : State) (f : FieldName) : BitVec (Params.fieldPos f).width := extract s.t (Params.fieldPos f)

/-- `T.F <- v`, that is `T <- insert(T, F, v)` (00_scope R12). -/
def State.setField (s : State) (f : FieldName) (v : BitVec (Params.fieldPos f).width) : State :=
  s.load (insert s.t (Params.fieldPos f) v)

/-- A one-bit field of `T` as a Boolean (40_codec R142). -/
def State.flag (s : State) (f : FieldName) : Bool := isSet s.t (Params.fieldPos f)

/-- `PUR`, the power-up-ready flag of the byte in `T` (10_state R42). -/
def State.pur (s : State) : Bool := s.flag .pur
/-- `CR`, the conversion-ready flag. -/
def State.cr (s : State) : Bool := s.flag .cr
/-- `CALS`, the calibration-start bit: 1 while the chip calibrates. -/
def State.cals (s : State) : Bool := s.flag .cals
/-- `CAL_ERR`, the calibration-error flag. -/
def State.calErr (s : State) : Bool := s.flag .calErr
/-- `AVDDS`, the internal-reference-enable bit. -/
def State.avdds (s : State) : Bool := s.flag .avdds

end Sys2Proof.Machine
end

