-- ==== Sys2Proof/Machine/Operands.lean ====
section
/-! DEFINITION. The operand latches (10_state R26; 30_encoding R97 to R103): what acceptance writes, and the command that the
running operation stands for. -/

namespace Sys2Proof.Machine

/-- Format L: `A_LDO` (R99). -/
def State.latchLdo (c : BitVec 4) (s : State) : State := { s with aLdo := c }
/-- Format G: `A_GAIN` (R100). -/
def State.latchGain (c : BitVec 3) (s : State) : State := { s with aGain := c }
/-- Format S: `A_RATE` (R101). -/
def State.latchRate (c : BitVec 3) (s : State) : State := { s with aRate := c }
/-- Format C: `A_MODE` (R102). -/
def State.latchMode (c : BitVec 2) (s : State) : State := { s with aMode := c }
/-- Format B: `A_PWR` (R98). -/
def State.latchPwr (b : Bool) (s : State) : State := { s with aPwr := b }
/-- Format N: `A_LDO`, `A_GAIN`, `A_RATE` (R103). -/
def State.latchNew (ldo : BitVec 4) (gain rate : BitVec 3) (s : State) : State :=
  ((s.latchLdo ldo).latchGain gain).latchRate rate
/-- Format Z writes no latch (R97). -/
def State.latchNone (s : State) : State := s

/-- The command in progress: `SEQ.OP` with the latches its format writes (10_state R22, R26). It has a meaning only in RUN. -/
def running (s : State) : Instr :=
  match s.seq.op with
  | .new => .new s.aLdo s.aGain s.aRate
  | .reset => .reset
  | .enable => .enable s.aPwr
  | .available => .available
  | .read => .read
  | .setLdo => .setLdo s.aLdo
  | .getLdo => .getLdo
  | .setGain => .setGain s.aGain
  | .getGain => .getGain
  | .setRate => .setRate s.aRate
  | .getRate => .getRate
  | .calibrate => .calibrate s.aMode

end Sys2Proof.Machine
end

