-- ==== Sys2Proof/Machine/Ops.lean ====
section
/-! DEFINITION. The shared operations of the sequencer: how a command is accepted or refused (30_encoding R105, R106; 10_state
R21, R27), how an operation returns or raises an error (60_exceptions R221, R222), the external actions (41_primitives R150 to
R154), and what one row of a step table is (00_scope R13). -/

namespace Sys2Proof.Machine

open Sys2Proof.Codec

/-! ### Small updates -/

/-- A trace item is added (00_scope R14). -/
def State.push (s : State) (i : TraceItem) : State := { s with trace := i :: s.trace }
/-- `ACC <- v` (10_state R25). -/
def State.setAcc (s : State) (v : Data) : State := { s with acc := v }
/-- `HVALID <- b` (10_state R27). -/
def State.setHandle (s : State) (b : Bool) : State := { s with hvalid := b }
/-- `PHASE <- p`. -/
def State.setPhase (s : State) (p : Phase) : State := { s with phase := p }
/-- `SEQ.STEP <- k`. -/
def State.atStep (s : State) (k : Nat) : State := { s with seq := { s.seq with step := k } }
/-- `PHASE <- RUN`, `SEQ <- (op, 0)` (10_state R21, R22). -/
def State.start (s : State) (op : Op) : State := { s with phase := .run, seq := { op := op, step := 0 } }
/-- What is left waiting at the bus port. -/
def State.setBusIn (s : State) (l : List BusIn) : State := { s with busIn := l }
/-- What is left waiting at the delay port. -/
def State.setDlyIn (s : State) (l : List DlyIn) : State := { s with dlyIn := l }
/-- What is left waiting at the command port. -/
def State.setCmdIn (s : State) (l : List CmdWord) : State := { s with cmdIn := l }

/-! ### Responses, the normal end and the error end -/

/-- Deliver the response `(st, d)` (30_encoding R112). -/
def deliver (st : Status) (d : Data) (s : State) : State := s.push (.rsp st d)

/-- The verdict REFUSED (30_encoding R105, R106; 60_exceptions R228): the response `(REFUSED, 0)` and nothing else. -/
def refuse (s : State) : State := deliver .refused 0 s

/-- The five error kinds with their payloads (60_exceptions R215 to R220). -/
inductive Err where
  | transport (errk : BitVec 2)
  | notReady
  | invalidData
  | calibrationError
  | revisionMismatch (revid : BitVec 4)
deriving DecidableEq, Repr

/-- `code(K)` (30_encoding R113). -/
def errStatus : Err → Status
  | .transport _ => .transport
  | .notReady => .notReady
  | .invalidData => .invalidData
  | .calibrationError => .calibrationError
  | .revisionMismatch _ => .revisionMismatch

/-- `DATA` of an error response (30_encoding R114). -/
def errData : Err → Data
  | .transport e => e.setWidth 32
  | .notReady => 0
  | .invalidData => 0
  | .calibrationError => 0
  | .revisionMismatch n => n.setWidth 32

/-- The `STATUS` code on the response port (30_encoding R113). -/
def statusCode : Status → BitVec 3
  | .ok => 0
  | .transport => 1
  | .notReady => 2
  | .invalidData => 3
  | .calibrationError => 4
  | .revisionMismatch => 5
  | .refused => 7

/-- What the response port carries for a trace item: `(STATUS, DATA)` for a response, nothing for an action (30_encoding R90,
R113). -/
def portWord : TraceItem → Option (BitVec 3 × Data)
  | .rsp st d => some (statusCode st, d)
  | _ => none

/-- The words that the response port has carried, newest first. -/
def portWords (l : List TraceItem) : List (BitVec 3 × Data) := l.filterMap portWord

/-- Normal end, `return v` (60_exceptions R221): the response `(OK, v)`, `PHASE <- IDLE`. -/
def returnOk (v : Data) (s : State) : State := (deliver .ok v s).setPhase .idle

/-- Taking an exception: error end, `raise K(info)` (60_exceptions R222). The response `(code(K), info)`, `PHASE <- IDLE`;
nothing is saved, restored or undone, and `HVALID` is unchanged. There is no return from it (R224). -/
def raise (e : Err) (s : State) : State := (deliver (errStatus e) (errData e) s).setPhase .idle

/-! ### Rows of a step table -/

/-- An external action (00_scope R12): one bus transaction or one delay request. -/
inductive Action where
  /-- `MemRead(a, 1)` (41_primitives R150). -/
  | read (a : Byte)
  /-- `MemWrite(a, 1, v)` (R151). -/
  | write (a v : Byte)
  /-- `MemRead(0x12, 3)` (R152). -/
  | burst
  /-- `Delay(n)` (R154). -/
  | delay (ms : BitVec 10)
deriving DecidableEq, Repr

/-- What a row does once its answer is in (the "on answer" column, 00_scope R13), with the state it leaves. -/
inductive Next where
  /-- Continue at row `k`. -/
  | row (k : Nat) (s : State)
  /-- `return v`. -/
  | ret (v : Data) (s : State)
  /-- `raise e`. -/
  | err (e : Err) (s : State)

/-- One row of a step table (00_scope R13): its external action, and its "on answer" column, a function of the state in which
the answer has been loaded. -/
structure Row where
  action : Action
  onAnswer : State → Next

/-- Carry out what the "on answer" column says (10_state R22; 60_exceptions R221, R222). -/
def commit : Next → State
  | .row k s => s.atStep k
  | .ret v s => returnOk v s
  | .err e s => raise e s

/-- A row that reads register `a`, edits `T` and goes on at row `k`. -/
def readRow (a : Byte) (k : Nat) (edit : State → State) : Row := ⟨.read a, fun s => .row k (edit s)⟩

/-- A row that writes `T` to register `a` and goes on at row `k`. -/
def writeRow (s : State) (a : Byte) (k : Nat) : Row := ⟨.write a s.t, fun s => .row k s⟩

/-- A row that writes `T` to register `a` and returns. -/
def lastWriteRow (s : State) (a : Byte) : Row := ⟨.write a s.t, fun s => .ret 0 s⟩

/-- A row that requests a delay and goes on at row `k`. -/
def delayRow (ms : BitVec 10) (k : Nat) : Row := ⟨.delay ms, fun s => .row k s⟩

/-- The readiness check on the byte in `T` (60_exceptions R217): with `PUR` 0 raise NotReady. -/
def requireReady (s : State) (next : Next) : Next := if s.pur then next else .err .notReady s

/-! ### The external actions -/

/-- Take the answer to the outstanding bus request. With none waiting the block waits (70_reset_and_hazards R262); a late answer
to an abandoned action is discarded (R251). -/
def awaitBus (f : BusAnswer → State → State) (s : State) : Result :=
  match s.busIn with
  | [] => .next s
  | .late _ :: rest => .next (s.setBusIn rest)
  | .answer x :: rest => .next (f x (s.setBusIn rest))

/-- `T <- MemRead(a, 1)` and then the row's "on answer" column (41_primitives R150). -/
def memRead1 (a : Byte) (k : State → Next) : State → Result :=
  awaitBus fun x s =>
    if x.ok then commit (k ((s.push (.rd a x.rb0)).load x.rb0))
    else raise (.transport x.errk) (s.push (.rdErr a x.errk))

/-- `MemWrite(a, 1, v)` and then the row's "on answer" column (41_primitives R151). -/
def memWrite1 (a v : Byte) (k : State → Next) : State → Result :=
  awaitBus fun x s =>
    if x.ok then commit (k (s.push (.wr a v)))
    else raise (.transport x.errk) (s.push (.wrErr a v x.errk))

/-- `ACC <- assemble24(MemRead(0x12, 3))` and then the row's "on answer" column (41_primitives R152, R157; 43_readout R181). -/
def memRead3 (k : State → Next) : State → Result :=
  awaitBus fun x s =>
    if x.ok then
      commit (k ((s.push (.rd3 Params.adcoB2 x.rb0 x.rb1 x.rb2)).setAcc (assemble24 x.rb0 x.rb1 x.rb2)))
    else raise (.transport x.errk) (s.push (.rd3Err Params.adcoB2 x.errk))

/-- `Delay(n)` and then the row's "on answer" column; it cannot fail (41_primitives R154). -/
def delayFor (ms : BitVec 10) (k : State → Next) (s : State) : Result :=
  match s.dlyIn with
  | [] => .next s
  | .late :: rest => .next (s.setDlyIn rest)
  | .done :: rest => .next (commit (k ((s.setDlyIn rest).push (.dly ms))))

/-- One row of a step table: its action, its answer, its "on answer" column, in one transition (00_scope R8, R13). -/
def perform (r : Row) (s : State) : Result :=
  match r.action with
  | .read a => memRead1 a r.onAnswer s
  | .write a v => memWrite1 a v r.onAnswer s
  | .burst => memRead3 r.onAnswer s
  | .delay ms => delayFor ms r.onAnswer s

/-- The row of a table, if there is one. -/
def performRow (r : Option Row) (s : State) : Result :=
  match r with
  | some r => perform r s
  | none => .fault .seqOutsideTable

/-! ### Accepting a command -/

/-- What a command other than NEW meets in IDLE: it is refused when an operand is illegal (30_encoding R105) or when there is no
handle (R106); otherwise its latches are written and its operation starts (10_state R22, R26). -/
def acceptCmd (i : Instr) (op : Op) (latch : State → State) (s : State) : State :=
  if i.wf && s.hvalid then (latch s).start op else refuse s

/-- What NEW meets in IDLE: no handle is needed, and accepting it clears `HVALID` (10_state R27; 42_init_power R169). -/
def acceptNew (i : Instr) (latch : State → State) (s : State) : State :=
  if i.wf then ((latch s).setHandle false).start .new else refuse s

/-- The transition of a command: in IDLE it is accepted or refused; in RUN, if it is the command in progress, the outstanding
row of its table is carried out; if another is in progress it waits, nothing happens (10_state R21; 70_reset_and_hazards R260). -/
def operate (i : Instr) (accept : State → State) (table : State → Nat → Option Row) (s : State) : Result :=
  match s.phase with
  | .idle => .next (accept s)
  | .run => if running s = i then performRow (table s s.seq.step) s else .next s

/-! ### Block reset -/

/-- The answer that waits for an abandoned bus action becomes a late one (70_reset_and_hazards R251). -/
def abandonBus : List BusIn → List BusIn
  | [] => []
  | .late x :: rest => .late x :: abandonBus rest
  | .answer x :: rest => .late x :: rest

/-- The "done" that waits for an abandoned delay becomes a late one. -/
def abandonDly : List DlyIn → List DlyIn
  | [] => []
  | .late :: rest => .late :: abandonDly rest
  | .done :: rest => .late :: rest

/-- Block reset (70_reset_and_hazards R250, R251), `out` being the action outstanding when it occurs: `PHASE` IDLE, `HVALID` 0,
`T`, `ACC` and the latches unspecified (free values), no action issued, no response delivered. -/
def blockReset (out : Option Action) (s : State) : State :=
  { s with
    phase := .idle
    hvalid := false
    t := Config.freeT s.freeCtr
    acc := Config.freeAcc s.freeCtr
    aLdo := Config.freeLdo s.freeCtr
    aGain := Config.freeGain s.freeCtr
    aRate := Config.freeRate s.freeCtr
    aMode := Config.freeMode s.freeCtr
    aPwr := Config.freePwr s.freeCtr
    freeCtr := s.freeCtr + 1
    rst := false
    busIn := match out with
      | none => s.busIn
      | some (.delay _) => s.busIn
      | some _ => abandonBus s.busIn
    dlyIn := match out with
      | some (.delay _) => abandonDly s.dlyIn
      | _ => s.dlyIn }

end Sys2Proof.Machine
end

