-- ==== Sys2Proof/Machine/Calibration.lean ====
section
/-! DEFINITION. Calibration and its poll loop (45_calibrate): CALIBRATE. -/

namespace Sys2Proof.Machine

open Sys2Proof.Params

/-- The step table of CALIBRATE (R205). Row 3 goes back to row 2, the only backward move; nothing is counted (R206). -/
def calibrateTable (s : State) : Nat → Option Row
  | 0 => some (readRow regOfCal 1 fun s => (s.setField .calmod s.aMode).setField .cals 1)
  | 1 => some (writeRow s regOfCal 2)
  | 2 => some ⟨.read regOfCal, fun s =>
      if s.cals then .row 3 s else if s.calErr then .err .calibrationError s else .ret 0 s⟩
  | 3 => some (delayRow tCalPoll 2)
  | _ => none

/-- CALIBRATE (R205). -/
def execCalibrate (mode : BitVec 2) (s : State) : Result :=
  operate (.calibrate mode) (acceptCmd (.calibrate mode) .calibrate (State.latchMode mode)) calibrateTable s

end Sys2Proof.Machine
end

