-- ==== Sys2Proof/Machine/FrontEnd.lean ====
section
/-! DEFINITION. Analog front-end configuration (44_config): SET_LDO, GET_LDO, SET_GAIN, GET_GAIN, SET_RATE, GET_RATE. -/

namespace Sys2Proof.Machine

open Sys2Proof.Params Sys2Proof.Codec

/-- The step table of SET_LDO (R190). With External the operation ends at row 1, and rows 2 and 3 are no rows of that run. -/
def setLdoTable (s : State) : Nat → Option Row
  | 0 => some (readRow regOfAvdds 1 fun s => s.setField .avdds (ofBool 1 (s.aLdo != encLdo .ext)))
  | 1 => if s.aLdo = encLdo .ext then some (lastWriteRow s regOfAvdds) else some (writeRow s regOfAvdds 2)
  | 2 => if s.aLdo = encLdo .ext then none else
      some (readRow ctrl1 3 fun s => s.setField .vldo (s.aLdo.extractLsb' 0 3))
  | 3 => if s.aLdo = encLdo .ext then none else some (lastWriteRow s ctrl1)
  | _ => none

/-- The step table of GET_LDO (R191): `AVDDS` alone decides in row 0 (60_exceptions R223). -/
def getLdoTable (_ : State) : Nat → Option Row
  | 0 => some ⟨.read regOfAvdds, fun s => if s.avdds then .row 1 s else .ret ((encLdo .ext).setWidth 32) s⟩
  | 1 => some ⟨.read ctrl1, fun s => .ret ((s.getField .vldo).setWidth 32) s⟩
  | _ => none

/-- The step table of SET_GAIN (R192). -/
def setGainTable (s : State) : Nat → Option Row
  | 0 => some (readRow ctrl1 1 fun s => s.setField .gains s.aGain)
  | 1 => some (lastWriteRow s ctrl1)
  | _ => none

/-- The step table of GET_GAIN (R193). The raising branch is dead with the gain table of 40_codec R136 (90_conflicts C3). -/
def getGainTable (_ : State) : Nat → Option Row
  | 0 => some ⟨.read ctrl1, fun s =>
      if (decGain (s.getField .gains)).isSome then .ret ((s.getField .gains).setWidth 32) s else .err .invalidData s⟩
  | _ => none

/-- The step table of SET_RATE (R194). -/
def setRateTable (s : State) : Nat → Option Row
  | 0 => some (readRow ctrl2 1 fun s => s.setField .crs s.aRate)
  | 1 => some (lastWriteRow s ctrl2)
  | _ => none

/-- The step table of GET_RATE (R195): a reserved code raises InvalidData. -/
def getRateTable (_ : State) : Nat → Option Row
  | 0 => some ⟨.read ctrl2, fun s =>
      if (decRate (s.getField .crs)).isSome then .ret ((s.getField .crs).setWidth 32) s else .err .invalidData s⟩
  | _ => none

/-- SET_LDO (R190). -/
def execSetLdo (ldo : BitVec 4) (s : State) : Result :=
  operate (.setLdo ldo) (acceptCmd (.setLdo ldo) .setLdo (State.latchLdo ldo)) setLdoTable s

/-- GET_LDO (R191). -/
def execGetLdo (s : State) : Result :=
  operate .getLdo (acceptCmd .getLdo .getLdo State.latchNone) getLdoTable s

/-- SET_GAIN (R192). -/
def execSetGain (gain : BitVec 3) (s : State) : Result :=
  operate (.setGain gain) (acceptCmd (.setGain gain) .setGain (State.latchGain gain)) setGainTable s

/-- GET_GAIN (R193). -/
def execGetGain (s : State) : Result :=
  operate .getGain (acceptCmd .getGain .getGain State.latchNone) getGainTable s

/-- SET_RATE (R194). -/
def execSetRate (rate : BitVec 3) (s : State) : Result :=
  operate (.setRate rate) (acceptCmd (.setRate rate) .setRate (State.latchRate rate)) setRateTable s

/-- GET_RATE (R195). -/
def execGetRate (s : State) : Result :=
  operate .getRate (acceptCmd .getRate .getRate State.latchNone) getRateTable s

end Sys2Proof.Machine
end

