-- ==== Sys2Proof/Machine/InitPower.lean ====
section
/-! DEFINITION. Initialization, reset and power sequencing (42_init_power): NEW, NEW_DEFAULT, RESET, ENABLE. -/

namespace Sys2Proof.Machine

open Sys2Proof.Params Sys2Proof.Codec

/-- The step table of RESET (R167). -/
def resetTable (s : State) : Nat → Option Row
  | 0 => some (readRow puCtrl 1 fun s => s.setField .rr 1)
  | 1 => some (writeRow s puCtrl 2)
  | 2 => some (delayRow tResetHold 3)
  | 3 => some (readRow puCtrl 4 fun s => (s.setField .rr 0).setField .pud 1)
  | 4 => some (writeRow s puCtrl 5)
  | 5 => some (delayRow tResetRel 6)
  | 6 => some ⟨.read puCtrl, fun s => requireReady s (.ret 0 s)⟩
  | _ => none

/-- The step table of ENABLE with operand 0, power down (R168). -/
def powerDownTable (s : State) : Nat → Option Row
  | 0 => some (readRow puCtrl 1 fun s => (s.setField .pud 0).setField .pua 0)
  | 1 => some (lastWriteRow s puCtrl)
  | _ => none

/-- The step table of ENABLE with operand 1, power up (R168). -/
def powerUpTable (s : State) : Nat → Option Row
  | 0 => some (readRow puCtrl 1 fun s => (s.setField .pud 1).setField .pua 1)
  | 1 => some (writeRow s puCtrl 2)
  | 2 => some (delayRow tPowerUp 3)
  | 3 => some (readRow puCtrl 4 fun s => s.setField .cs 1)
  | 4 => some (writeRow s puCtrl 5)
  | 5 => some ⟨.read puCtrl, fun s => requireReady s (.ret 0 s)⟩
  | _ => none

/-- The step table of ENABLE: the operand latch selects it (R168). -/
def enableTable (s : State) (k : Nat) : Option Row :=
  if s.aPwr then powerUpTable s k else powerDownTable s k

/-- The revision check of NEW's row 13 (R165; 40_codec R143; 60_exceptions R220): the payload is the observed nibble. -/
def requireRevision (s : State) (next : Next) : Next :=
  if revOk s.t then next else .err (.revisionMismatch (s.getField .revId)) s

/-- The step table of NEW (R165), flat: the parts' tables renumbered (R169). With an External reference rows 16 and 17 are
skipped, and are no rows of that run. -/
def newTable (s : State) : Nat → Option Row
  | 0 => some (readRow puCtrl 1 fun s => s.setField .rr 1)
  | 1 => some (writeRow s puCtrl 2)
  | 2 => some (delayRow tResetHold 3)
  | 3 => some (readRow puCtrl 4 fun s => (s.setField .rr 0).setField .pud 1)
  | 4 => some (writeRow s puCtrl 5)
  | 5 => some (delayRow tResetRel 6)
  | 6 => some ⟨.read puCtrl, fun s => requireReady s (.row 7 s)⟩
  | 7 => some (readRow puCtrl 8 fun s => (s.setField .pud 1).setField .pua 1)
  | 8 => some (writeRow s puCtrl 9)
  | 9 => some (delayRow tPowerUp 10)
  | 10 => some (readRow puCtrl 11 fun s => s.setField .cs 1)
  | 11 => some (writeRow s puCtrl 12)
  | 12 => some ⟨.read puCtrl, fun s => requireReady s (.row 13 s)⟩
  | 13 => some ⟨.read rev, fun s => requireRevision s (.row 14 s)⟩
  | 14 => some (readRow regOfAvdds 15 fun s => s.setField .avdds (ofBool 1 (s.aLdo != encLdo .ext)))
  | 15 => some (writeRow s regOfAvdds (if s.aLdo = encLdo .ext then 18 else 16))
  | 16 => if s.aLdo = encLdo .ext then none else
      some (readRow ctrl1 17 fun s => s.setField .vldo (s.aLdo.extractLsb' 0 3))
  | 17 => if s.aLdo = encLdo .ext then none else some (writeRow s ctrl1 18)
  | 18 => some (readRow ctrl1 19 fun s => s.setField .gains s.aGain)
  | 19 => some (writeRow s ctrl1 20)
  | 20 => some (readRow ctrl2 21 fun s => s.setField .crs s.aRate)
  | 21 => some (writeRow s ctrl2 22)
  | 22 => some (readRow adcReg 23 fun s => s.setField .regChps 0b11)
  | 23 => some (writeRow s adcReg 24)
  | 24 => some (readRow pga 25 fun s => s.setField .ldoMode 0)
  | 25 => some (writeRow s pga 26)
  | 26 => some (readRow pwrCtrl 27 fun s => s.setField .pgaCapEn 1)
  | 27 => some ⟨.write pwrCtrl s.t, fun s => .ret 0 (s.setHandle true)⟩
  | _ => none

/-- NEW (R165, R169). -/
def execNew (ldo : BitVec 4) (gain rate : BitVec 3) (s : State) : Result :=
  operate (.new ldo gain rate) (acceptNew (.new ldo gain rate) (State.latchNew ldo gain rate)) newTable s

/-- NEW_DEFAULT (R166): NEW with the default operands. -/
def execNewDefault (s : State) : Result :=
  operate (Instr.expand .newDefault)
    (acceptNew .newDefault (State.latchNew defaultLdo defaultGain defaultRate)) newTable s

/-- RESET (R167). -/
def execReset (s : State) : Result :=
  operate .reset (acceptCmd .reset .reset State.latchNone) resetTable s

/-- ENABLE (R168). -/
def execEnable (pwr : Bool) (s : State) : Result :=
  operate (.enable pwr) (acceptCmd (.enable pwr) .enable (State.latchPwr pwr)) enableTable s

end Sys2Proof.Machine
end

