-- ==== Sys2Proof/Machine/Readout.lean ====
section
/-! DEFINITION. Conversion status and result read-out (43_readout): AVAILABLE and READ. -/

namespace Sys2Proof.Machine

open Sys2Proof.Params Sys2Proof.Codec

/-- The step table of AVAILABLE (R180): `DATA[0] = CR`. -/
def availableTable (_ : State) : Nat → Option Row
  | 0 => some ⟨.read puCtrl, fun s => .ret (ofBool 32 s.cr) s⟩
  | _ => none

/-- The step table of READ (R181): `ACC` holds the assembled bytes and is then sign-extended. -/
def readTable (_ : State) : Nat → Option Row
  | 0 => some ⟨.burst, fun s => .ret (sext24 s.acc) (s.setAcc (sext24 s.acc))⟩
  | _ => none

/-- AVAILABLE (R180). -/
def execAvailable (s : State) : Result :=
  operate .available (acceptCmd .available .available State.latchNone) availableTable s

/-- READ (R181). -/
def execRead (s : State) : Result :=
  operate .read (acceptCmd .read .read State.latchNone) readTable s

end Sys2Proof.Machine
end

