-- ==== Sys2Proof/Machine/BusPort.lean ====
section
/-! DEFINITION. The outstanding external action (10_state R22, R43), its request word (30_encoding R108, R110), and the meanings
of the three bus requests (41_primitives R150 to R152). -/

namespace Sys2Proof.Machine

/-- The step table of an operation (00_scope R13). -/
def tableOf : Op → State → Nat → Option Row
  | .new => newTable
  | .reset => resetTable
  | .enable => enableTable
  | .available => availableTable
  | .read => readTable
  | .setLdo => setLdoTable
  | .getLdo => getLdoTable
  | .setGain => setGainTable
  | .getGain => getGainTable
  | .setRate => setRateTable
  | .getRate => getRateTable
  | .calibrate => calibrateTable

/-- The row whose action is outstanding: in RUN, the row of `SEQ` (10_state R22); none in IDLE. -/
def currentRow (s : State) : Option Row :=
  match s.phase with
  | .idle => none
  | .run => tableOf s.seq.op s s.seq.step

/-- The outstanding external action (10_state R43). -/
def outstanding (s : State) : Option Action := (currentRow s).map Row.action

/-- The packed request word of a bus action (30_encoding R110); a delay goes to another port (R111). -/
def requestWord : Action → Option ReqWord
  | .read a => some (packReq (readReq a))
  | .write a v => some (packReq (writeReq a v))
  | .burst => some (packReq burstReq)
  | .delay _ => none

/-- The transition in which the bus request `act` gets its answer: the outstanding row is carried out if `act` is its action.
A request that is not outstanding is not on the port, and nothing happens (assumption log 14). -/
def transact (act : Action) (s : State) : Result :=
  match currentRow s with
  | none => .next s
  | some r => if r.action = act then perform r s else .next s

/-- BUS_WRITE: `write_register(addr, data)` (R151). -/
def execBusWrite (addr data : Byte) (s : State) : Result := transact (.write addr data) s

/-- BUS_READ1: `read_register(addr)` (R150). -/
def execBusRead1 (addr : Byte) (s : State) : Result := transact (.read addr) s

/-- BUS_READ3: the result burst (R152). -/
def execBusRead3 (s : State) : Result := transact .burst s

end Sys2Proof.Machine
end

