-- ==== Sys2Proof/Machine/Dispatch.lean ====
section
/-! DEFINITION. One arm per row of the opcode table. -/

namespace Sys2Proof.Machine

def exec (i : Instr) (s : State) : Host.Outcome State Fault Refusal :=
  match i with
  | .new ldo gain rate => Sys2Proof.Machine.execNew ldo gain rate s
  | .reset => Sys2Proof.Machine.execReset s
  | .enable pwr => Sys2Proof.Machine.execEnable pwr s
  | .available => Sys2Proof.Machine.execAvailable s
  | .read => Sys2Proof.Machine.execRead s
  | .setLdo ldo => Sys2Proof.Machine.execSetLdo ldo s
  | .getLdo => Sys2Proof.Machine.execGetLdo s
  | .setGain gain => Sys2Proof.Machine.execSetGain gain s
  | .getGain => Sys2Proof.Machine.execGetGain s
  | .setRate rate => Sys2Proof.Machine.execSetRate rate s
  | .getRate => Sys2Proof.Machine.execGetRate s
  | .calibrate mode => Sys2Proof.Machine.execCalibrate mode s
  | .newDefault => Sys2Proof.Machine.execNewDefault s
  | .busWrite addr data => Sys2Proof.Machine.execBusWrite addr data s
  | .busRead1 addr => Sys2Proof.Machine.execBusRead1 addr s
  | .busRead3 => Sys2Proof.Machine.execBusRead3 s

end Sys2Proof.Machine
end

