-- ==== Sys2Proof/Machine/Fetch.lean ====
section
/-! DEFINITION. What the block does next: the word at the command port in IDLE (20_memory R79; 70_reset_and_hazards R260), the
outstanding external action in RUN (10_state R22). Also where a word of the opcode table is placed so that the next transition runs
it. -/

namespace Sys2Proof.Machine

/-- What the next transition works on. -/
inductive Fetched where
  /-- IDLE with no word offered. -/
  | nothing
  /-- IDLE with this word offered. -/
  | command (w : CmdWord)
  /-- RUN with this request word outstanding at the bus port. -/
  | request (q : ReqWord)
  /-- RUN with a delay request outstanding. -/
  | delay
  /-- RUN with a `SEQ` that names no row. -/
  | noRow
deriving DecidableEq, Repr

/-- Fetch (20_memory R79: a command is delivered whole on the command port; 10_state R22: in RUN, `SEQ` says what is next). -/
def fetch (s : State) : Fetched :=
  match s.phase with
  | .idle =>
    match s.cmdIn with
    | [] => .nothing
    | w :: _ => .command w
  | .run =>
    match outstanding s with
    | none => .noRow
    | some a =>
      match requestWord a with
      | some q => .request q
      | none => .delay

/-- The offered word is consumed (30_encoding R105, R106, R112). -/
def takeCmd (s : State) : State := s.setCmdIn s.cmdIn.tail

/-- The transition that consumes a command word: the instruction it decodes to, or the response REFUSED (30_encoding R95,
R105). -/
def runCommand (w : CmdWord) (s : State) : Result :=
  match decodeCmd w with
  | .ok i => exec i (takeCmd s)
  | .error _ => .next (refuse (takeCmd s))

/-- The transition of the outstanding bus request. -/
def runRequest (q : ReqWord) (s : State) : Result :=
  match decodeReq q with
  | .ok i => exec i s
  | .error _ => .fault .requestNotIssued

/-- What is fetched is run; a delay is a row of the command in progress. -/
def runFetched (f : Fetched) (s : State) : Result :=
  match f with
  | .nothing => .next s
  | .command w => runCommand w s
  | .request q => runRequest q s
  | .delay => exec (running s) s
  | .noRow => .fault .seqOutsideTable

/-- One transition of the block (00_scope R8). Block reset goes first (assumption log 8). -/
def transition (s : State) : Result :=
  if s.rst then .next (blockReset (outstanding s) s) else runFetched (fetch s) s

/-! ### Placing a word of the opcode table -/

/-- A row of a step table whose action is the given bus request: the place from which the sequencer issues it (20_memory R61). -/
def homeOf : Instr → Option Seq
  | .busWrite a _ =>
    if a = Params.puCtrl then some ⟨.enable, 1⟩
    else if a = Params.ctrl1 then some ⟨.setGain, 1⟩
    else if a = Params.ctrl2 then some ⟨.setRate, 1⟩
    else if a = Params.adcReg then some ⟨.new, 23⟩
    else if a = Params.pga then some ⟨.new, 25⟩
    else if a = Params.pwrCtrl then some ⟨.new, 27⟩
    else none
  | .busRead1 a =>
    if a = Params.puCtrl then some ⟨.available, 0⟩
    else if a = Params.ctrl1 then some ⟨.getGain, 0⟩
    else if a = Params.ctrl2 then some ⟨.getRate, 0⟩
    else if a = Params.adcReg then some ⟨.new, 22⟩
    else if a = Params.pga then some ⟨.new, 24⟩
    else if a = Params.pwrCtrl then some ⟨.new, 26⟩
    else if a = Params.rev then some ⟨.new, 13⟩
    else none
  | .busRead3 => some ⟨.read, 0⟩
  | _ => none

/-- The data byte a request carries from `T`. -/
def dataOf (i : Instr) (t : Byte) : Byte :=
  match i with
  | .busWrite _ v => v
  | _ => t

/-- An answer for the request, if none waits: a done transaction with bytes 0 (assumption log 16). -/
def ensureAnswer (l : List BusIn) : List BusIn :=
  if l.isEmpty then [.answer { ok := true, errk := 0, rb0 := 0, rb1 := 0, rb2 := 0 }] else l

/-- A command word is offered to a block that can take it: IDLE, with a handle, not in block reset. -/
def placeCommand (w : CmdWord) (s : State) : State :=
  { s with phase := .idle, hvalid := true, rst := false, cmdIn := w :: s.cmdIn }

/-- A request word is made the outstanding one: `SEQ` at a row that issues it, `T` its data byte, `HVALID` as it is in such a
run (0 in NEW, 1 elsewhere), and an answer waiting. A word that is no request the block issues is not placed. -/
def placeRequest (q : ReqWord) (s : State) : State :=
  match decodeReq q with
  | .error _ => s
  | .ok i =>
    match homeOf i with
    | none => s
    | some h =>
      { s with
        phase := .run
        seq := h
        t := dataOf i s.t
        hvalid := h.op != .new
        rst := false
        busIn := ensureAnswer s.busIn }

/-- A word of the opcode table where the next transition works on it. -/
def placeWord (nbits w : Nat) (s : State) : State :=
  if nbits ≤ 16 then placeCommand (BitVec.ofNat 16 w) s else placeRequest (BitVec.ofNat 28 w) s

end Sys2Proof.Machine
end

