-- ==== Sys2Proof/Machine/Step.lean ====
section
/-! DEFINITION. One step of the machine, and where the next instruction is fetched from. -/

namespace Sys2Proof.Machine

/-- One step: one transition of the block (00_scope R8). -/
def step (s : State) : Host.Outcome State Fault Refusal := transition s

/-- `s` with a word of the opcode table placed so that the next step runs it (assumption log 16). -/
def State.withFetchWord (s : State) (nbits w : Nat) : State := placeWord nbits w s

end Sys2Proof.Machine
end

