-- ==== Sys2Proof/Machine/Assembler.lean ====
section
/-! DEFINITION. The assembler's notation of commands (30_encoding R115): mnemonics and operand names. It is a way of writing command
words and no part of the block; nothing in the machine reads it. -/

namespace Sys2Proof.Assembler

/-- Operand names of the gain (40_codec R136). -/
def gainName : Gain → String
  | .g1 => "G1" | .g2 => "G2" | .g4 => "G4" | .g8 => "G8" | .g16 => "G16" | .g32 => "G32" | .g64 => "G64" | .g128 => "G128"

/-- Operand names of the reference (40_codec R137). -/
def ldoName : Ldo → String
  | .l4v5 => "L4V5" | .l4v2 => "L4V2" | .l3v9 => "L3V9" | .l3v6 => "L3V6" | .l3v3 => "L3V3"
  | .l3v0 => "L3V0" | .l2v7 => "L2V7" | .l2v4 => "L2V4" | .ext => "EXT"

/-- Operand names of the sample rate (40_codec R138). -/
def rateName : Rate → String
  | .sps10 => "SPS10" | .sps20 => "SPS20" | .sps40 => "SPS40" | .sps80 => "SPS80" | .sps320 => "SPS320"

/-- Operand names of the calibration mode (40_codec R139). -/
def modeName : CalMode → String
  | .internal => "INTERNAL" | .offset => "OFFSET" | .gain => "GAIN"

/-- The tokens of a command: its mnemonic and its operands. None for an illegal operand, and for a bus request, which has no
assembler form. -/
def tokens : Instr → Option (List String)
  | .new ldo gain rate =>
    match Codec.decLdo ldo, Codec.decGain gain, Codec.decRate rate with
    | some l, some g, some r => some ["NEW", ldoName l, gainName g, rateName r]
    | _, _, _ => none
  | .newDefault => some ["NEW_DEFAULT"]
  | .reset => some ["RESET"]
  | .enable pwr => some ["ENABLE", if pwr then "1" else "0"]
  | .available => some ["AVAILABLE"]
  | .read => some ["READ"]
  | .setLdo ldo => (Codec.decLdo ldo).map fun l => ["SET_LDO", ldoName l]
  | .getLdo => some ["GET_LDO"]
  | .setGain gain => (Codec.decGain gain).map fun g => ["SET_GAIN", gainName g]
  | .getGain => some ["GET_GAIN"]
  | .setRate rate => (Codec.decRate rate).map fun r => ["SET_RATE", rateName r]
  | .getRate => some ["GET_RATE"]
  | .calibrate mode => (Codec.decCalMode mode).map fun m => ["CALIBRATE", modeName m]
  | .busWrite _ _ => none
  | .busRead1 _ => none
  | .busRead3 => none

/-- The code of an operand name. -/
def ldoOf (n : String) : Option (BitVec 4) := (Ldo.all.find? fun m => ldoName m == n).map Params.encLdo
/-- The code of a gain name. -/
def gainOf (n : String) : Option (BitVec 3) := (Gain.all.find? fun m => gainName m == n).map Params.encGain
/-- The code of a rate name. -/
def rateOf (n : String) : Option (BitVec 3) := (Rate.all.find? fun m => rateName m == n).map Params.encRate
/-- The code of a mode name. -/
def modeOf (n : String) : Option (BitVec 2) := (CalMode.all.find? fun m => modeName m == n).map Params.encCalMode

/-- The command that a line's tokens write. -/
def assemble : List String → Option Instr
  | ["NEW", l, g, r] =>
    match ldoOf l, gainOf g, rateOf r with
    | some l, some g, some r => some (.new l g r)
    | _, _, _ => none
  | ["NEW_DEFAULT"] => some .newDefault
  | ["RESET"] => some .reset
  | ["ENABLE", "0"] => some (.enable false)
  | ["ENABLE", "1"] => some (.enable true)
  | ["AVAILABLE"] => some .available
  | ["READ"] => some .read
  | ["SET_LDO", l] => (ldoOf l).map .setLdo
  | ["GET_LDO"] => some .getLdo
  | ["SET_GAIN", g] => (gainOf g).map .setGain
  | ["GET_GAIN"] => some .getGain
  | ["SET_RATE", r] => (rateOf r).map .setRate
  | ["GET_RATE"] => some .getRate
  | ["CALIBRATE", m] => (modeOf m).map .calibrate
  | _ => none

end Sys2Proof.Assembler
end

