-- ==== Sys2Proof/Machine/Layouts.lean ====
section
/-! DEFINITION. The seven register layouts as records (40_codec R144): `decode_REG` extracts every named field, `encode_REG`
inserts every named field into an existing byte. Bits of no named field pass unchanged. -/

namespace Sys2Proof.Layouts

open Sys2Proof.Codec Sys2Proof.Params

/-- The named fields of `PU_CTRL` (10_state R34). -/
structure PuCtrl where
  (rr pud pua pur cs cr oscs avdds : BitVec 1)
deriving DecidableEq, Repr

/-- The named fields of `CTRL1` (R35). -/
structure Ctrl1 where
  (gains vldo : BitVec 3)
  (drdySel crp : BitVec 1)
deriving DecidableEq, Repr

/-- The named fields of `CTRL2` (R36). -/
structure Ctrl2 where
  calmod : BitVec 2
  (cals calErr : BitVec 1)
  crs : BitVec 3
  chs : BitVec 1
deriving DecidableEq, Repr

/-- The named fields of `ADC_REG` (R38). -/
structure AdcReg where
  (regChp adcVcm regChps : BitVec 2)
deriving DecidableEq, Repr

/-- The named fields of `PGA` (R39). -/
structure Pga where
  (pgaChpDis pgaInv pgaBypassEn pgaOutEn ldoMode rdOtpSel : BitVec 1)
deriving DecidableEq, Repr

/-- The named fields of `PWR_CTRL` (R40). -/
structure PwrCtrl where
  (pgaCurr adcCurr : BitVec 2)
  masterBiasCurr : BitVec 3
  pgaCapEn : BitVec 1
deriving DecidableEq, Repr

/-- The named field of `REV` (R41). -/
structure Rev where
  revId : BitVec 4
deriving DecidableEq, Repr

/-- `decode_PU_CTRL`. -/
def decodePuCtrl (b : Byte) : PuCtrl where
  rr := extract b (fieldPos .rr)
  pud := extract b (fieldPos .pud)
  pua := extract b (fieldPos .pua)
  pur := extract b (fieldPos .pur)
  cs := extract b (fieldPos .cs)
  cr := extract b (fieldPos .cr)
  oscs := extract b (fieldPos .oscs)
  avdds := extract b (fieldPos .avdds)

/-- `encode_PU_CTRL`. -/
def encodePuCtrl (r : PuCtrl) (b : Byte) : Byte :=
  let b := insert b (fieldPos .rr) r.rr
  let b := insert b (fieldPos .pud) r.pud
  let b := insert b (fieldPos .pua) r.pua
  let b := insert b (fieldPos .pur) r.pur
  let b := insert b (fieldPos .cs) r.cs
  let b := insert b (fieldPos .cr) r.cr
  let b := insert b (fieldPos .oscs) r.oscs
  insert b (fieldPos .avdds) r.avdds

/-- `decode_CTRL1`. -/
def decodeCtrl1 (b : Byte) : Ctrl1 where
  gains := extract b (fieldPos .gains)
  vldo := extract b (fieldPos .vldo)
  drdySel := extract b (fieldPos .drdySel)
  crp := extract b (fieldPos .crp)

/-- `encode_CTRL1`. -/
def encodeCtrl1 (r : Ctrl1) (b : Byte) : Byte :=
  let b := insert b (fieldPos .gains) r.gains
  let b := insert b (fieldPos .vldo) r.vldo
  let b := insert b (fieldPos .drdySel) r.drdySel
  insert b (fieldPos .crp) r.crp

/-- `decode_CTRL2`. -/
def decodeCtrl2 (b : Byte) : Ctrl2 where
  calmod := extract b (fieldPos .calmod)
  cals := extract b (fieldPos .cals)
  calErr := extract b (fieldPos .calErr)
  crs := extract b (fieldPos .crs)
  chs := extract b (fieldPos .chs)

/-- `encode_CTRL2`. -/
def encodeCtrl2 (r : Ctrl2) (b : Byte) : Byte :=
  let b := insert b (fieldPos .calmod) r.calmod
  let b := insert b (fieldPos .cals) r.cals
  let b := insert b (fieldPos .calErr) r.calErr
  let b := insert b (fieldPos .crs) r.crs
  insert b (fieldPos .chs) r.chs

/-- `decode_ADC_REG`. -/
def decodeAdcReg (b : Byte) : AdcReg where
  regChp := extract b (fieldPos .regChp)
  adcVcm := extract b (fieldPos .adcVcm)
  regChps := extract b (fieldPos .regChps)

/-- `encode_ADC_REG`: bits 7:6 are reserved and pass unchanged. -/
def encodeAdcReg (r : AdcReg) (b : Byte) : Byte :=
  let b := insert b (fieldPos .regChp) r.regChp
  let b := insert b (fieldPos .adcVcm) r.adcVcm
  insert b (fieldPos .regChps) r.regChps

/-- `decode_PGA`. -/
def decodePga (b : Byte) : Pga where
  pgaChpDis := extract b (fieldPos .pgaChpDis)
  pgaInv := extract b (fieldPos .pgaInv)
  pgaBypassEn := extract b (fieldPos .pgaBypassEn)
  pgaOutEn := extract b (fieldPos .pgaOutEn)
  ldoMode := extract b (fieldPos .ldoMode)
  rdOtpSel := extract b (fieldPos .rdOtpSel)

/-- `encode_PGA`: bits 2:1 are reserved and pass unchanged. -/
def encodePga (r : Pga) (b : Byte) : Byte :=
  let b := insert b (fieldPos .pgaChpDis) r.pgaChpDis
  let b := insert b (fieldPos .pgaInv) r.pgaInv
  let b := insert b (fieldPos .pgaBypassEn) r.pgaBypassEn
  let b := insert b (fieldPos .pgaOutEn) r.pgaOutEn
  let b := insert b (fieldPos .ldoMode) r.ldoMode
  insert b (fieldPos .rdOtpSel) r.rdOtpSel

/-- `decode_PWR_CTRL`. -/
def decodePwrCtrl (b : Byte) : PwrCtrl where
  pgaCurr := extract b (fieldPos .pgaCurr)
  adcCurr := extract b (fieldPos .adcCurr)
  masterBiasCurr := extract b (fieldPos .masterBiasCurr)
  pgaCapEn := extract b (fieldPos .pgaCapEn)

/-- `encode_PWR_CTRL`. -/
def encodePwrCtrl (r : PwrCtrl) (b : Byte) : Byte :=
  let b := insert b (fieldPos .pgaCurr) r.pgaCurr
  let b := insert b (fieldPos .adcCurr) r.adcCurr
  let b := insert b (fieldPos .masterBiasCurr) r.masterBiasCurr
  insert b (fieldPos .pgaCapEn) r.pgaCapEn

/-- `decode_REV`. -/
def decodeRev (b : Byte) : Rev where
  revId := extract b (fieldPos .revId)

/-- `encode_REV`: bits 7:4 are not named and pass unchanged. -/
def encodeRev (r : Rev) (b : Byte) : Byte := insert b (fieldPos .revId) r.revId

end Sys2Proof.Layouts
end

