-- ==== Sys2Proof/Machine/Env.lean ====
section
/-! DEFINITION. The environment's moves between two transitions of the block (00_scope R9; 70_reset_and_hazards R262: each answer
is a step of the environment), and the transition system of the block with its environment (00_scope R8). -/

namespace Sys2Proof.Machine

/-- The host offers a word at the command port (70_reset_and_hazards R260: it waits until it is taken). -/
def State.offer (s : State) (w : CmdWord) : State := s.setCmdIn (s.cmdIn ++ [w])

/-- The transport answers (30_encoding R109). -/
def State.answerBus (s : State) (a : BusAnswer) : State := s.setBusIn (s.busIn ++ [.answer a])

/-- The transport answers an action that block reset abandoned (70_reset_and_hazards R251). -/
def State.answerBusLate (s : State) (a : BusAnswer) : State := s.setBusIn (s.busIn ++ [.late a])

/-- The delay provider answers "done" (30_encoding R111). -/
def State.answerDelay (s : State) : State := s.setDlyIn (s.dlyIn ++ [.done])

/-- The delay provider answers a delay that block reset abandoned. -/
def State.answerDelayLate (s : State) : State := s.setDlyIn (s.dlyIn ++ [.late])

/-- Block reset is asserted (70_reset_and_hazards R250). -/
def State.assertRst (s : State) : State := { s with rst := true }

/-- A move of the environment. -/
inductive EnvMove : State → State → Prop
  | offer (s : State) (w : CmdWord) : EnvMove s (s.offer w)
  | answerBus (s : State) (a : BusAnswer) : EnvMove s (s.answerBus a)
  | answerBusLate (s : State) (a : BusAnswer) : EnvMove s (s.answerBusLate a)
  | answerDelay (s : State) : EnvMove s s.answerDelay
  | answerDelayLate (s : State) : EnvMove s s.answerDelayLate
  | assertRst (s : State) : EnvMove s s.assertRst

/-- A step of the block or a move of its environment. -/
inductive Moves : State → State → Prop
  | block (s t : State) (h : step s = .next t) : Moves s t
  | env (s t : State) (h : EnvMove s t) : Moves s t

/-- The states reached from block reset in any environment. -/
inductive Reachable : State → Prop
  | reset : Reachable State.reset
  | move (s t : State) (h : Reachable s) (m : Moves s t) : Reachable t

end Sys2Proof.Machine
end

