-- ==== Sys2Proof/Machine/Pseudocode.lean ====
section
/-! DEFINITION. The pseudocode of the operations as the rules give it beside the step tables (42_init_power R165 to R168, 43_readout
R180, R181, 44_config R190 to R195, 45_calibrate R205), written a second time and independently of the tables: a program of
external actions, and what it does with a list of bus answers. The machine does not use it; a statement says that the two agree. -/

namespace Sys2Proof.Pseudo

open Sys2Proof.Machine Sys2Proof.Params Sys2Proof.Codec

/-- A program of external actions (00_scope R12). -/
inductive Prog where
  /-- `MemRead(a, 1)`, with what follows for each byte read. -/
  | read (a : Byte) (k : Byte → Prog)
  /-- `MemWrite(a, 1, v)`. -/
  | write (a v : Byte) (k : Prog)
  /-- `MemRead(0x12, 3)`. -/
  | burst (k : Byte → Byte → Byte → Prog)
  /-- `Delay(n)`. -/
  | delay (ms : BitVec 10) (k : Prog)
  /-- `return v`. -/
  | ret (v : Data)
  /-- `raise e`. -/
  | err (e : Err)
  /-- The poll loop is unrolled no further. -/
  | unrolled

/-- How a program ended: its trace items, oldest first, its response, and the bus answers left over. -/
structure Ending where
  items : List TraceItem
  status : Status
  data : Data
  rest : List BusAnswer

/-- One more trace item before the rest. -/
def Ending.after (i : TraceItem) (e : Ending) : Ending := { e with items := i :: e.items }

/-- The end that a transport error makes (60_exceptions R216). -/
def failed (i : TraceItem) (errk : BitVec 2) (rest : List BusAnswer) : Ending :=
  { items := [i], status := .transport, data := errk.setWidth 32, rest := rest }

/-- What a program does with a list of bus answers, every delay being answered: none when the answers run out before its end. -/
def Prog.eval : Prog → List BusAnswer → Option Ending
  | .read _ _, [] => none
  | .read a k, x :: xs =>
    if x.ok then ((k x.rb0).eval xs).map (Ending.after (.rd a x.rb0)) else some (failed (.rdErr a x.errk) x.errk xs)
  | .write _ _ _, [] => none
  | .write a v k, x :: xs =>
    if x.ok then (k.eval xs).map (Ending.after (.wr a v)) else some (failed (.wrErr a v x.errk) x.errk xs)
  | .burst _, [] => none
  | .burst k, x :: xs =>
    if x.ok then ((k x.rb0 x.rb1 x.rb2).eval xs).map (Ending.after (.rd3 0x12 x.rb0 x.rb1 x.rb2))
    else some (failed (.rd3Err 0x12 x.errk) x.errk xs)
  | .delay ms k, xs => (k.eval xs).map (Ending.after (.dly ms))
  | .ret v, xs => some { items := [], status := .ok, data := v, rest := xs }
  | .err e, xs => some { items := [], status := errStatus e, data := errData e, rest := xs }
  | .unrolled, _ => none

/-- A field of a byte. -/
abbrev fld (f : FieldName) : BitField := fieldPos f

/-- `RMW(a; ...)` (41_primitives R153). -/
def rmw (a : Byte) (edit : Byte → Byte) (k : Prog) : Prog := .read a fun b => .write a (edit b) k

/-- RESET (R167), then `k`. -/
def reset (k : Prog) : Prog :=
  rmw 0x00 (fun b => insert b (fld .rr) 1) <|
  .delay 10 <|
  rmw 0x00 (fun b => insert (insert b (fld .rr) 0) (fld .pud) 1) <|
  .delay 1 <|
  .read 0x00 fun b => if extract b (fld .pur) = 0 then .err .notReady else k

/-- ENABLE (R168), then `k`. -/
def enable (pwr : Bool) (k : Prog) : Prog :=
  if pwr = false then
    rmw 0x00 (fun b => insert (insert b (fld .pud) 0) (fld .pua) 0) k
  else
    rmw 0x00 (fun b => insert (insert b (fld .pud) 1) (fld .pua) 1) <|
    .delay 600 <|
    rmw 0x00 (fun b => insert b (fld .cs) 1) <|
    .read 0x00 fun b => if extract b (fld .pur) = 0 then .err .notReady else k

/-- SET_LDO (R190), then `k`. -/
def setLdo (ldo : BitVec 4) (k : Prog) : Prog :=
  if ldo = 8 then
    rmw 0x00 (fun b => insert b (fld .avdds) 0) k
  else
    rmw 0x00 (fun b => insert b (fld .avdds) 1) <|
    rmw 0x01 (fun b => insert b (fld .vldo) (ldo.extractLsb' 0 3)) k

/-- SET_GAIN (R192), then `k`. -/
def setGain (gain : BitVec 3) (k : Prog) : Prog := rmw 0x01 (fun b => insert b (fld .gains) gain) k

/-- SET_RATE (R194), then `k`. -/
def setRate (rate : BitVec 3) (k : Prog) : Prog := rmw 0x02 (fun b => insert b (fld .crs) rate) k

/-- NEW (R165). -/
def new (ldo : BitVec 4) (gain rate : BitVec 3) : Prog :=
  reset <| enable true <|
  .read 0x1F fun b =>
    if extract b (fld .revId) ≠ 0xF then .err (.revisionMismatch (extract b (fld .revId)))
    else
      setLdo ldo <| setGain gain <| setRate rate <|
      rmw 0x15 (fun b => insert b (fld .regChps) 0b11) <|
      rmw 0x1B (fun b => insert b (fld .ldoMode) 0) <|
      rmw 0x1C (fun b => insert b (fld .pgaCapEn) 1) <|
      .ret 0

/-- AVAILABLE (R180). -/
def available : Prog := .read 0x00 fun b => .ret ((extract b (fld .cr)).setWidth 32)

/-- READ (R181). -/
def readOut : Prog := .burst fun b0 b1 b2 => .ret (sext24 (assemble24 b0 b1 b2))

/-- GET_LDO (R191). -/
def getLdo : Prog :=
  .read 0x00 fun b => if extract b (fld .avdds) = 0 then .ret 8
    else .read 0x01 fun b => .ret ((extract b (fld .vldo)).setWidth 32)

/-- GET_GAIN (R193); its raising branch is dead. -/
def getGain : Prog := .read 0x01 fun b => .ret ((extract b (fld .gains)).setWidth 32)

/-- GET_RATE (R195). -/
def getRate : Prog :=
  .read 0x02 fun b =>
    if extract b (fld .crs) = 4 ∨ extract b (fld .crs) = 5 ∨ extract b (fld .crs) = 6 then .err .invalidData
    else .ret ((extract b (fld .crs)).setWidth 32)

/-- The poll loop of CALIBRATE (R205), at most `fuel` polls of it. -/
def poll : Nat → Prog
  | 0 => .unrolled
  | fuel + 1 => .read 0x02 fun b =>
      if extract b (fld .cals) = 0 then
        if extract b (fld .calErr) = 1 then .err .calibrationError else .ret 0
      else .delay 10 (poll fuel)

/-- CALIBRATE (R205). -/
def calibrate (mode : BitVec 2) (fuel : Nat) : Prog :=
  rmw 0x02 (fun b => insert (insert b (fld .calmod) mode) (fld .cals) 1) (poll fuel)

/-- The pseudocode of a command; a bus request has none. -/
def progOf (fuel : Nat) : Instr → Option Prog
  | .new ldo gain rate => some (new ldo gain rate)
  | .reset => some (reset (.ret 0))
  | .enable pwr => some (enable pwr (.ret 0))
  | .available => some available
  | .read => some readOut
  | .setLdo ldo => some (setLdo ldo (.ret 0))
  | .getLdo => some getLdo
  | .setGain gain => some (setGain gain (.ret 0))
  | .getGain => some getGain
  | .setRate rate => some (setRate rate (.ret 0))
  | .getRate => some getRate
  | .calibrate mode => some (calibrate mode fuel)
  | .newDefault => some (new 4 7 3)
  | .busWrite _ _ => none
  | .busRead1 _ => none
  | .busRead3 => none

end Sys2Proof.Pseudo
end

