-- ==== Sys2Proof/Safety.lean ====
section
/-! DEFINITION. Runs of several steps, and what counts as a good state: the invariants of the controller in the terms the
statements use. -/

namespace Sys2Proof.Machine

/-- `n` steps, stopping at the first fault or refusal. -/
def steps : Nat → State → Result
  | 0, s => .next s
  | n + 1, s =>
    match step s with
    | .next t => steps n t
    | .fault r => .fault r
    | .refused r => .refused r

/-- `SEQ` means something in RUN: it names a row of its operation's table (10_state R22, R43). -/
def SeqOk (s : State) : Prop := s.phase = .run → (currentRow s).isSome

/-- In RUN the operands of the command in progress are legal (10_state R26). -/
def LatchesOk (s : State) : Prop := s.phase = .run → (running s).wf

/-- In RUN the handle flag is 0 exactly in NEW (10_state R27; 42_init_power R169). -/
def HandleOk (s : State) : Prop := s.phase = .run → (s.hvalid = true ↔ s.seq.op ≠ .new)

/-- The control state is one that the spec describes. -/
def ControlOk (s : State) : Prop := SeqOk s ∧ LatchesOk s ∧ HandleOk s

/-- The union of the masks of some fields. -/
def fieldsMask (fs : List FieldName) : Byte := fs.foldl (fun m f => m ||| Codec.mask (Params.fieldPos f)) 0

/-- The target fields of the read-modify-write that a write row ends (10_state R32; 41_primitives R153), from the step tables
of 42_init_power, 44_config and 45_calibrate. -/
def targetFields : Op → Nat → List FieldName
  | .reset, 1 => [.rr]
  | .reset, 4 => [.rr, .pud]
  | .enable, 1 => [.pud, .pua]
  | .enable, 4 => [.cs]
  | .setLdo, 1 => [.avdds]
  | .setLdo, 3 => [.vldo]
  | .setGain, 1 => [.gains]
  | .setRate, 1 => [.crs]
  | .calibrate, 1 => [.calmod, .cals]
  | .new, 1 => [.rr]
  | .new, 4 => [.rr, .pud]
  | .new, 8 => [.pud, .pua]
  | .new, 11 => [.cs]
  | .new, 15 => [.avdds]
  | .new, 17 => [.vldo]
  | .new, 19 => [.gains]
  | .new, 21 => [.crs]
  | .new, 23 => [.regChps]
  | .new, 25 => [.ldoMode]
  | .new, 27 => [.pgaCapEn]
  | _, _ => []

/-- The bits that the write of a row may change. -/
def targetMask (op : Op) (k : Nat) : Byte := fieldsMask (targetFields op k)

/-- Never a blind write (70_reset_and_hazards R259): when a write is outstanding, the last thing the block did was to read the
same register, and the byte to be written is the byte read outside the target fields. -/
def NoBlindWrite (s : State) : Prop :=
  ∀ a v, outstanding s = some (.write a v) →
    ∃ b rest, s.trace = .rd a b :: rest ∧
      v &&& ~~~ targetMask s.seq.op s.seq.step = b &&& ~~~ targetMask s.seq.op s.seq.step

/-- GET_LDO reaches 0x01 only when `AVDDS` is 1 (20_memory R61): when it does, the last thing the block did was to read that. -/
def SelectorOk (s : State) : Prop :=
  s.seq.op = .getLdo → outstanding s = some (.read 0x01) →
    ∃ b rest, s.trace = .rd 0x00 b :: rest ∧ Codec.extract b (Params.fieldPos .avdds) = 1

/-! ### Runs of the block with its environment -/

/-- What the outstanding action waits for is at the port. -/
def Answered (s : State) : Prop :=
  (∃ act q x rest, outstanding s = some act ∧ requestWord act = some q ∧ s.busIn = .answer x :: rest) ∨
  (∃ ms rest, outstanding s = some (.delay ms) ∧ s.dlyIn = .done :: rest)

/-- An infinite run, without block reset, in which no transaction fails and every byte offered to a poll of CALIBRATE (row 2)
shows `CALS` 1: the premise of 45_calibrate R206 item 2. -/
def BusyRun (f : Nat → State) : Prop :=
  (∀ n, Moves (f n) (f (n + 1))) ∧
  (∀ n, (f n).rst = false) ∧
  (∀ n x rest, (f n).busIn = .answer x :: rest →
    x.ok = true ∧ ((f n).seq.step = 2 → Codec.extract x.rb0 (Params.fieldPos .cals) = 1))

/-! ### The states that a row leads to, in the terms the statements use -/

/-- `SEQ = (op, k)` in RUN. -/
def AtRow (s : State) (op : Op) (k : Nat) : Prop := s.phase = .run ∧ s.seq = { op := op, step := k }

/-- A single read of `a` was answered `x`, `T` is now `t`, and row `k` is next. -/
def afterRead (s : State) (a : Byte) (x : BusAnswer) (rest : List BusIn) (t : Byte) (k : Nat) : State :=
  { s with busIn := rest, trace := .rd a x.rb0 :: s.trace, t := t, seq := { op := s.seq.op, step := k } }

/-- `T` was written to `a`, and row `k` is next. -/
def afterWrite (s : State) (a : Byte) (rest : List BusIn) (k : Nat) : State :=
  { s with busIn := rest, trace := .wr a s.t :: s.trace, seq := { op := s.seq.op, step := k } }

/-- A delay of `ms` was answered, and row `k` is next. -/
def afterDelay (s : State) (ms : BitVec 10) (rest : List DlyIn) (k : Nat) : State :=
  { s with dlyIn := rest, trace := .dly ms :: s.trace, seq := { op := s.seq.op, step := k } }

/-- A single read of `a` was answered `x`, `T` is that byte, and the operation ended with the response `(st, d)`. -/
def endedByRead (s : State) (a : Byte) (x : BusAnswer) (rest : List BusIn) (st : Status) (d : Data) : State :=
  { s with busIn := rest, trace := .rsp st d :: .rd a x.rb0 :: s.trace, t := x.rb0, phase := .idle }

/-- `T` was written to `a`, and the operation ended with the response `(OK, 0)`. -/
def endedByWrite (s : State) (a : Byte) (rest : List BusIn) : State :=
  { s with busIn := rest, trace := .rsp .ok 0 :: .wr a s.t :: s.trace, phase := .idle }

/-- The trace item of a bus action that failed (00_scope R14). -/
def errorItem (a : Action) (e : BitVec 2) : TraceItem :=
  match a with
  | .read r => .rdErr r e
  | .write r v => .wrErr r v e
  | .burst => .rd3Err 0x12 e
  | .delay ms => .dly ms

/-- An illegal command word, in the words of 30_encoding R105: a reserved opcode, a must-be-zero bit of its format, or an
operand code without a member. -/
def IllegalWord (w : CmdWord) : Prop :=
  let opc := (w.extractLsb' 12 4).toNat
  let area := (w.extractLsb' 0 12).toNat
  let ldo := (w.extractLsb' 0 4).toNat
  let rateN := (w.extractLsb' 7 3).toNat
  opc = 0x0 ∨ opc = 0xD ∨ opc = 0xE ∨ opc = 0xF ∨
  (opc ∈ [0x2, 0x4, 0x5, 0x7, 0x9, 0xB] ∧ area ≠ 0) ∨
  (opc = 0x3 ∧ 2 ≤ area) ∨
  (opc = 0x6 ∧ (16 ≤ area ∨ 9 ≤ ldo)) ∨
  (opc = 0x8 ∧ 8 ≤ area) ∨
  (opc = 0xA ∧ (8 ≤ area ∨ area ∈ [4, 5, 6])) ∨
  (opc = 0xC ∧ (4 ≤ area ∨ area = 1)) ∨
  (opc = 0x1 ∧ (1024 ≤ area ∨ 9 ≤ ldo ∨ rateN ∈ [4, 5, 6]))

/-- Which statuses an operation can end with (60_exceptions R226). -/
def mayEnd (op : Op) (pwr : Bool) (st : Status) : Bool :=
  match st with
  | .ok => true
  | .transport => true
  | .notReady => op == .new || op == .reset || (op == .enable && pwr)
  | .invalidData => op == .getRate
  | .calibrationError => op == .calibrate
  | .revisionMismatch => op == .new
  | .refused => false

/-- The registers an operation reads by a single-byte read (20_memory R61); with External, SET_LDO does not reach 0x01. -/
def readsOf (ldo : BitVec 4) : Op → List Byte
  | .new => [0x00, 0x01, 0x02, 0x15, 0x1B, 0x1C, 0x1F]
  | .reset => [0x00]
  | .enable => [0x00]
  | .available => [0x00]
  | .read => []
  | .setLdo => if ldo = 8 then [0x00] else [0x00, 0x01]
  | .getLdo => [0x00, 0x01]
  | .setGain => [0x01]
  | .getGain => [0x01]
  | .setRate => [0x02]
  | .getRate => [0x02]
  | .calibrate => [0x02]

/-- The registers an operation writes (20_memory R61); with External, SET_LDO does not reach 0x01. -/
def writesOf (ldo : BitVec 4) : Op → List Byte
  | .new => [0x00, 0x01, 0x02, 0x15, 0x1B, 0x1C]
  | .reset => [0x00]
  | .enable => [0x00]
  | .available => []
  | .read => []
  | .setLdo => if ldo = 8 then [0x00] else [0x00, 0x01]
  | .getLdo => []
  | .setGain => [0x01]
  | .getGain => []
  | .setRate => [0x02]
  | .getRate => []
  | .calibrate => [0x02]

/-- Two states in which only dead registers differ (10_state R24 to R28): everything seen from outside agrees; in RUN `SEQ` and
the command in progress agree too, and so does `T` unless nothing has been read yet (row 0). -/
def SameButDead (s u : State) : Prop :=
  s.phase = u.phase ∧ s.hvalid = u.hvalid ∧ s.rst = u.rst ∧ s.cmdIn = u.cmdIn ∧ s.busIn = u.busIn ∧ s.dlyIn = u.dlyIn ∧
  s.trace = u.trace ∧
  (s.phase = .run → s.seq = u.seq ∧ running s = running u ∧ (s.seq.step ≠ 0 → s.t = u.t))

end Sys2Proof.Machine
end

