-- ==== Sys2Proof/Certificates/Slice0/Obligations.lean ====
section
/-! DEFINITION. The statements for the provers. Each is about the machine, for every state that meets its hypotheses. -/

open Sys2Proof Sys2Proof.Machine Sys2Proof.Params

/-! ### Encoding and decoding -/

/-- 30_encoding R93: the decoder accepts a word as an operation exactly when the operation's row of the opcode table selects it;
at most one row does; the all-zero and the all-ones word are illegal. -/
def Obligations.CommandDecoderFollowsOpcodeTable : Prop :=
  (∀ (w : CmdWord) (op : Op),
    (∃ i, decodeCmd w = .ok i ∧ i.op? = some op) ↔ ∃ r ∈ commandRows, r.op = op ∧ r.selects w = true) ∧
  (∀ w : CmdWord, (commandRows.filter fun r => r.selects w).length ≤ 1) ∧
  (∃ r, decodeCmd 0x0000 = .error r) ∧ (∃ r, decodeCmd 0xFFFF = .error r)

/-- 30_encoding R97 to R103 with R93: a legal word offered to an idle block that holds a handle is taken, its operand fields go
into the latches of its format and nowhere else, and its operation starts at row 0. -/
def Obligations.AcceptedWordsLatchTheirFields : Prop :=
  ∀ (s : State) (w : CmdWord) (rest : List CmdWord),
    s.phase = .idle → s.rst = false → s.hvalid = true → s.cmdIn = w :: rest →
    (w = 0x2000 → step s = .next { s with cmdIn := rest, phase := .run, seq := ⟨.reset, 0⟩ }) ∧
    (w = 0x4000 → step s = .next { s with cmdIn := rest, phase := .run, seq := ⟨.available, 0⟩ }) ∧
    (w = 0x5000 → step s = .next { s with cmdIn := rest, phase := .run, seq := ⟨.read, 0⟩ }) ∧
    (w = 0x7000 → step s = .next { s with cmdIn := rest, phase := .run, seq := ⟨.getLdo, 0⟩ }) ∧
    (w = 0x9000 → step s = .next { s with cmdIn := rest, phase := .run, seq := ⟨.getGain, 0⟩ }) ∧
    (w = 0xB000 → step s = .next { s with cmdIn := rest, phase := .run, seq := ⟨.getRate, 0⟩ }) ∧
    (w &&& 0xFFFE = 0x3000 →
      step s = .next { s with cmdIn := rest, phase := .run, seq := ⟨.enable, 0⟩, aPwr := w.getLsbD 0 }) ∧
    (w &&& 0xFFF0 = 0x6000 → (w.extractLsb' 0 4).toNat ≤ 8 →
      step s = .next { s with cmdIn := rest, phase := .run, seq := ⟨.setLdo, 0⟩, aLdo := w.extractLsb' 0 4 }) ∧
    (w &&& 0xFFF8 = 0x8000 →
      step s = .next { s with cmdIn := rest, phase := .run, seq := ⟨.setGain, 0⟩, aGain := w.extractLsb' 0 3 }) ∧
    (w &&& 0xFFF8 = 0xA000 → (w.extractLsb' 0 3).toNat ∈ [0, 1, 2, 3, 7] →
      step s = .next { s with cmdIn := rest, phase := .run, seq := ⟨.setRate, 0⟩, aRate := w.extractLsb' 0 3 }) ∧
    (w &&& 0xFFFC = 0xC000 → (w.extractLsb' 0 2).toNat ∈ [0, 2, 3] →
      step s = .next { s with cmdIn := rest, phase := .run, seq := ⟨.calibrate, 0⟩, aMode := w.extractLsb' 0 2 }) ∧
    (w &&& 0xFC00 = 0x1000 → (w.extractLsb' 0 4).toNat ≤ 8 → (w.extractLsb' 7 3).toNat ∈ [0, 1, 2, 3, 7] →
      step s = .next { s with cmdIn := rest, phase := .run, seq := ⟨.new, 0⟩, hvalid := false,
                              aLdo := w.extractLsb' 0 4, aGain := w.extractLsb' 4 3, aRate := w.extractLsb' 7 3 })

/-- Decoding what the encoder writes gives the instruction back, for every well-formed instruction with every operand; the word of
NEW with the default operands is read as its own row of the table, NEW_DEFAULT (assumption log 13). -/
def Obligations.DecodeOfEncode : Prop :=
  ∀ i : Instr, i.wf = true → decode (encode i) = .ok i.canon

/-- A word that decodes is the word of the instruction it decodes to, and that instruction is well formed: no bit of a legal
word is dropped. -/
def Obligations.EncodeOfDecode : Prop :=
  ∀ (w : TableWord) (i : Instr), decode w = .ok i → encode i = w ∧ i.wf = true

/-- 30_encoding R105: the decoder refuses exactly the illegal words, and an illegal word offered to an idle block is consumed and
answered (REFUSED, 0), with no other effect, handle or not. -/
def Obligations.IllegalWordsAreRefused : Prop :=
  (∀ w : CmdWord, (∃ r, decodeCmd w = .error r) ↔ IllegalWord w) ∧
  ∀ (s : State) (w : CmdWord) (rest : List CmdWord),
    s.phase = .idle → s.rst = false → s.cmdIn = w :: rest → IllegalWord w →
    step s = .next { s with cmdIn := rest, trace := .rsp .refused 0 :: s.trace }

/-- Words written out from 95_test_vectors section 2.1 and 30_encoding R110 decode to what the vectors say. -/
def Obligations.SampleWordsDecode : Prop :=
  (decodeCmd 0x11F4).map Instr.expand = .ok (.new 4 7 3) ∧
  decodeCmd 0x1380 = .ok (.new 0 0 7) ∧
  decodeCmd 0x3001 = .ok (.enable true) ∧
  decodeCmd 0x5000 = .ok .read ∧
  decodeCmd 0x6008 = .ok (.setLdo 8) ∧
  decodeCmd 0xA007 = .ok (.setRate 7) ∧
  decodeCmd 0xC002 = .ok (.calibrate 2) ∧
  decodeReq 0x2A8049C = .ok (.busWrite 0x01 0x27) ∧
  decodeReq 0xAA47C01 = .ok (.busRead1 0x1F) ∧
  decodeReq 0xAA44803 = .ok .busRead3

/-- 30_encoding R108: the packed request word holds each field at its place, and nothing else. -/
def Obligations.RequestPackingIsInvertible : Prop :=
  (∀ r : BusReq, unpackReq (packReq r) = r) ∧ (∀ q : ReqWord, packReq (unpackReq q) = q)

/-- 30_encoding R110, 20_memory R72: whatever the state, the request outstanding at the bus port is one of the three
transactions, to device 0x2A, at one of the eight addresses, each as its pattern on the packed word says. The list of
addresses is the spec's own inference from R61. -/
def Obligations.IssuedRequestsAreTheThree : Prop :=
  ∀ (s : State) (act : Action) (q : ReqWord), outstanding s = some act → requestWord act = some q →
    (unpackReq q).dev = 0x2A ∧
    (unpackReq q).wb0.toNat ∈ [0x00, 0x01, 0x02, 0x12, 0x15, 0x1B, 0x1C, 0x1F] ∧
    ((∃ a v, act = .write a v ∧ q &&& 0xFFC0003 = 0x2A80000 ∧ (unpackReq q).wb0 = a ∧ (unpackReq q).wb1 = v) ∨
     (∃ a, act = .read a ∧ q &&& 0xFFC03FF = 0xAA40001 ∧ (unpackReq q).wb0 = a) ∨
     (act = .burst ∧ q = 0xAA44803))

/-- 30_encoding R115: a command written with the assembler's names is read back as the same command. -/
def Obligations.AssemblerNamesRoundTrip : Prop :=
  ∀ i : Instr, i.op? ≠ none → i.wf = true → (Assembler.tokens i).bind Assembler.assemble = some i

/-! ### The codec -/

/-- 40_codec R132: the five laws of field access, for every byte and every field; `G` and `F` are disjoint fields. -/
def Obligations.FieldAccessLaws : Prop :=
  ∀ (b : Byte) (F G : BitField) (v v' : BitVec F.width) (u : BitVec G.width),
    Codec.extract (Codec.insert b F v) F = v ∧
    Codec.insert b F v &&& ~~~ Codec.mask F = b &&& ~~~ Codec.mask F ∧
    Codec.insert b F (Codec.extract b F) = b ∧
    Codec.insert (Codec.insert b F v) F v' = Codec.insert b F v' ∧
    (F.reg = G.reg → Codec.mask F &&& Codec.mask G = 0 →
      Codec.insert (Codec.insert b F v) G u = Codec.insert (Codec.insert b G u) F v ∧
      Codec.extract (Codec.insert b G u) F = Codec.extract b F)

/-- 40_codec R144, with the field positions of assumption log 9: for each of the seven register layouts, decoding an encoded record gives the record, encoding the decoded
record into the same byte gives the byte, and bits of no named field pass from the existing byte. -/
def Obligations.RegisterRecordsRoundTrip : Prop :=
  (∀ r b, Layouts.decodePuCtrl (Layouts.encodePuCtrl r b) = r) ∧
  (∀ b, Layouts.encodePuCtrl (Layouts.decodePuCtrl b) b = b) ∧
  (∀ r b, Layouts.decodeCtrl1 (Layouts.encodeCtrl1 r b) = r) ∧
  (∀ b, Layouts.encodeCtrl1 (Layouts.decodeCtrl1 b) b = b) ∧
  (∀ r b, Layouts.decodeCtrl2 (Layouts.encodeCtrl2 r b) = r) ∧
  (∀ b, Layouts.encodeCtrl2 (Layouts.decodeCtrl2 b) b = b) ∧
  (∀ r b, Layouts.decodeAdcReg (Layouts.encodeAdcReg r b) = r ∧ Layouts.encodeAdcReg r b &&& 0xC0 = b &&& 0xC0) ∧
  (∀ b, Layouts.encodeAdcReg (Layouts.decodeAdcReg b) b = b) ∧
  (∀ r b, Layouts.decodePga (Layouts.encodePga r b) = r ∧ Layouts.encodePga r b &&& 0x06 = b &&& 0x06) ∧
  (∀ b, Layouts.encodePga (Layouts.decodePga b) b = b) ∧
  (∀ r b, Layouts.decodePwrCtrl (Layouts.encodePwrCtrl r b) = r) ∧
  (∀ b, Layouts.encodePwrCtrl (Layouts.decodePwrCtrl b) b = b) ∧
  (∀ r b, Layouts.decodeRev (Layouts.encodeRev r b) = r ∧ Layouts.encodeRev r b &&& 0xF0 = b &&& 0xF0) ∧
  (∀ b, Layouts.encodeRev (Layouts.decodeRev b) b = b)

/-- 40_codec R140, R141: the three bytes assemble to a 24-bit number, first byte most significant, and the sign extension of a
24-bit number is the 32-bit word of the same two's-complement value. -/
def Obligations.ReadResultIsTheSignedNumber : Prop :=
  (∀ b0 b1 b2 : Byte, (Codec.assemble24 b0 b1 b2).toNat = b0.toNat * 65536 + b1.toNat * 256 + b2.toNat) ∧
  (∀ a : Data, a.toNat < 2 ^ 24 →
    Codec.sext24 a = (a.setWidth 24).signExtend 32 ∧
    (Codec.sext24 a).toInt = if a.toNat < 2 ^ 23 then (a.toNat : Int) else (a.toNat : Int) - 2 ^ 24)

/-- 40_codec R134, R136 to R139: each enumeration's decoding is the partial inverse of its code table, failing exactly on the
codes of no member: rate codes 4, 5, 6, mode code 1, reference operands above 8, and no gain code (the tables: assumption log 10). A clear `AVDDS` reads as
External whatever `VLDO` holds. -/
def Obligations.EnumerationDecodingIsPartialInverse : Prop :=
  (∀ g, Codec.decGain (encGain g) = some g) ∧ (∀ c, Codec.decGain c ≠ none) ∧
  (∀ r, Codec.decRate (encRate r) = some r) ∧ (∀ c, Codec.decRate c = none ↔ c.toNat ∈ [4, 5, 6]) ∧
  (∀ m, Codec.decCalMode (encCalMode m) = some m) ∧ (∀ c, Codec.decCalMode c = none ↔ c = 1) ∧
  (∀ l, Codec.decLdo (encLdo l) = some l) ∧ (∀ c, Codec.decLdo c = none ↔ 9 ≤ c.toNat) ∧
  (∀ c, Codec.ldoOfChip false c = some .ext) ∧
  (∀ c, Codec.ldoOfChip true c = Codec.decLdo (c.setWidth 4) ∧ Codec.ldoOfChip true c ≠ none)

/-! ### A step runs what is fetched -/

/-- 20_memory R79, 30_encoding R95: with no block reset, a word offered to an idle block is consumed and the instruction it
decodes to is executed. -/
def Obligations.StepRunsTheOfferedCommand : Prop :=
  ∀ (s : State) (w : CmdWord) (rest : List CmdWord) (i : Instr),
    s.phase = .idle → s.rst = false → s.cmdIn = w :: rest → decodeCmd w = .ok i →
    step s = exec i { s with cmdIn := rest }

/-- 10_state R22, 30_encoding R110: with no block reset, a bus request that is outstanding decodes to one of the three bus
instructions, and the step executes it. -/
def Obligations.StepRunsTheOutstandingRequest : Prop :=
  ∀ (s : State) (act : Action) (q : ReqWord),
    s.rst = false → outstanding s = some act → requestWord act = some q →
    ∃ i, decodeReq q = .ok i ∧ i.wf = true ∧ encode i = .req q ∧ step s = exec i s

/-- 10_state R22: with no block reset, whatever is outstanding in RUN, the step is the transition of the command in
progress. -/
def Obligations.StepInRunIsTheCommandInProgress : Prop :=
  ∀ s : State, s.phase = .run → s.rst = false → step s = exec (running s) s

/-- 70_reset_and_hazards R253, R262: with nothing offered the idle block does nothing; with an action outstanding and no answer
it waits, unchanged. -/
def Obligations.BlockWaitsForItsEnvironment : Prop :=
  (∀ s : State, s.rst = false → s.phase = .idle → s.cmdIn = [] → step s = .next s) ∧
  (∀ (s : State) (ms : BitVec 10), s.rst = false → outstanding s = some (.delay ms) → s.dlyIn = [] → step s = .next s) ∧
  (∀ (s : State) (act : Action) (q : ReqWord), s.rst = false → outstanding s = some act → requestWord act = some q →
    s.busIn = [] → step s = .next s)

/-- 10_state R21, 70_reset_and_hazards R260: in RUN a command that is not the one in progress changes nothing, and no step
takes a word from the command port. -/
def Obligations.BusyBlockTakesNoCommand : Prop :=
  (∀ (s : State) (i : Instr), s.phase = .run → i.op? ≠ none → running s ≠ i.expand → exec i s = .next s) ∧
  (∀ s t : State, s.phase = .run → step s = .next t → t.cmdIn = s.cmdIn)

/-- 20_memory R79, 60_exceptions R227: what waits at the command port does not influence an operation in progress. -/
def Obligations.RunIgnoresTheCommandPort : Prop :=
  ∀ (s t : State) (words : List CmdWord), s.phase = .run → s.rst = false → step s = .next t →
    step { s with cmdIn := words } = .next { t with cmdIn := words }

/-! ### Acceptance -/

/-- 10_state R22, R26, 30_encoding R97 to R102: a legal command other than NEW, executed in IDLE with a handle, writes its
latch and starts its operation, and changes nothing else. -/
def Obligations.CommandsAreAccepted : Prop :=
  ∀ s : State, s.phase = .idle → s.hvalid = true →
    exec .reset s = .next { s with phase := .run, seq := ⟨.reset, 0⟩ } ∧
    (∀ pwr, exec (.enable pwr) s = .next { s with phase := .run, seq := ⟨.enable, 0⟩, aPwr := pwr }) ∧
    exec .available s = .next { s with phase := .run, seq := ⟨.available, 0⟩ } ∧
    exec .read s = .next { s with phase := .run, seq := ⟨.read, 0⟩ } ∧
    (∀ ldo, ldo.toNat ≤ 8 → exec (.setLdo ldo) s = .next { s with phase := .run, seq := ⟨.setLdo, 0⟩, aLdo := ldo }) ∧
    exec .getLdo s = .next { s with phase := .run, seq := ⟨.getLdo, 0⟩ } ∧
    (∀ gain, exec (.setGain gain) s = .next { s with phase := .run, seq := ⟨.setGain, 0⟩, aGain := gain }) ∧
    exec .getGain s = .next { s with phase := .run, seq := ⟨.getGain, 0⟩ } ∧
    (∀ rate, rate.toNat ∈ [0, 1, 2, 3, 7] →
      exec (.setRate rate) s = .next { s with phase := .run, seq := ⟨.setRate, 0⟩, aRate := rate }) ∧
    exec .getRate s = .next { s with phase := .run, seq := ⟨.getRate, 0⟩ } ∧
    (∀ mode, mode.toNat ∈ [0, 2, 3] →
      exec (.calibrate mode) s = .next { s with phase := .run, seq := ⟨.calibrate, 0⟩, aMode := mode })

/-- 10_state R27, 30_encoding R103, 42_init_power R165: NEW, executed in IDLE, handle or not, clears `HVALID`, writes its three
latches and starts at row 0. -/
def Obligations.NewIsAcceptedAndClearsTheHandle : Prop :=
  ∀ (s : State) (ldo : BitVec 4) (gain rate : BitVec 3),
    s.phase = .idle → ldo.toNat ≤ 8 → rate.toNat ∈ [0, 1, 2, 3, 7] →
    exec (.new ldo gain rate) s =
      .next { s with phase := .run, seq := ⟨.new, 0⟩, hvalid := false, aLdo := ldo, aGain := gain, aRate := rate }

/-- 42_init_power R166, with the codes of assumption log 10 and the constructor of log 13: NEW_DEFAULT is exactly NEW with 3.3 V, x128 and 80 samples per second, in every state; so it is accepted
in IDLE, and in RUN its last row ends it OK with a handle. -/
def Obligations.NewDefaultIsNewWithDefaults : Prop :=
  (∀ s : State, exec .newDefault s = exec (.new 4 7 3) s) ∧
  (∀ s : State, s.phase = .idle →
    exec .newDefault s =
      .next { s with phase := .run, seq := ⟨.new, 0⟩, hvalid := false, aLdo := 4, aGain := 7, aRate := 3 }) ∧
  (∀ (s : State) (x : BusAnswer) (rest : List BusIn),
    AtRow s .new 27 → running s = .new 4 7 3 → s.busIn = .answer x :: rest → x.ok = true →
    exec .newDefault s = .next { endedByWrite s 0x1C rest with hvalid := true })

/-- 30_encoding R106: a legal command other than NEW, offered to an idle block without a handle, is consumed and answered
(REFUSED, 0) with no other effect; NEW is accepted whatever `HVALID` is. -/
def Obligations.NoHandleMeansRefused : Prop :=
  ∀ (s : State) (w : CmdWord) (rest : List CmdWord) (i : Instr) (op : Op),
    s.phase = .idle → s.rst = false → s.cmdIn = w :: rest → decodeCmd w = .ok i → i.op? = some op →
    (op ≠ .new → s.hvalid = false →
      step s = .next { s with cmdIn := rest, trace := .rsp .refused 0 :: s.trace }) ∧
    (op = .new → ∃ t, step s = .next t ∧ AtRow t .new 0 ∧ t.hvalid = false ∧ t.trace = s.trace)

/-! ### The rows of the operations: what exec does when the answer is in -/

/-- 42_init_power R167: the rows of RESET, each answered without error. -/
def Obligations.ResetRows : Prop :=
  (∀ (s : State) (x : BusAnswer) (rest : List BusIn), s.busIn = .answer x :: rest → x.ok = true →
    (AtRow s .reset 0 →
      exec .reset s = .next (afterRead s 0x00 x rest (Codec.insert x.rb0 (fieldPos .rr) 1) 1)) ∧
    (AtRow s .reset 1 → exec .reset s = .next (afterWrite s 0x00 rest 2)) ∧
    (AtRow s .reset 3 →
      exec .reset s = .next (afterRead s 0x00 x rest
        (Codec.insert (Codec.insert x.rb0 (fieldPos .rr) 0) (fieldPos .pud) 1) 4)) ∧
    (AtRow s .reset 4 → exec .reset s = .next (afterWrite s 0x00 rest 5)) ∧
    (AtRow s .reset 6 →
      exec .reset s = .next (endedByRead s 0x00 x rest
        (if Codec.extract x.rb0 (fieldPos .pur) = 1 then .ok else .notReady) 0))) ∧
  (∀ (s : State) (rest : List DlyIn), s.dlyIn = .done :: rest →
    (AtRow s .reset 2 → exec .reset s = .next (afterDelay s 10 rest 3)) ∧
    (AtRow s .reset 5 → exec .reset s = .next (afterDelay s 1 rest 6)))

/-- 42_init_power R168: the rows of ENABLE, power down and power up, each answered without error. -/
def Obligations.EnableRows : Prop :=
  (∀ (s : State) (x : BusAnswer) (rest : List BusIn), s.busIn = .answer x :: rest → x.ok = true → s.aPwr = false →
    (AtRow s .enable 0 →
      exec (.enable false) s = .next (afterRead s 0x00 x rest
        (Codec.insert (Codec.insert x.rb0 (fieldPos .pud) 0) (fieldPos .pua) 0) 1)) ∧
    (AtRow s .enable 1 → exec (.enable false) s = .next (endedByWrite s 0x00 rest))) ∧
  (∀ (s : State) (x : BusAnswer) (rest : List BusIn), s.busIn = .answer x :: rest → x.ok = true → s.aPwr = true →
    (AtRow s .enable 0 →
      exec (.enable true) s = .next (afterRead s 0x00 x rest
        (Codec.insert (Codec.insert x.rb0 (fieldPos .pud) 1) (fieldPos .pua) 1) 1)) ∧
    (AtRow s .enable 1 → exec (.enable true) s = .next (afterWrite s 0x00 rest 2)) ∧
    (AtRow s .enable 3 →
      exec (.enable true) s = .next (afterRead s 0x00 x rest (Codec.insert x.rb0 (fieldPos .cs) 1) 4)) ∧
    (AtRow s .enable 4 → exec (.enable true) s = .next (afterWrite s 0x00 rest 5)) ∧
    (AtRow s .enable 5 →
      exec (.enable true) s = .next (endedByRead s 0x00 x rest
        (if Codec.extract x.rb0 (fieldPos .pur) = 1 then .ok else .notReady) 0))) ∧
  (∀ (s : State) (rest : List DlyIn), s.dlyIn = .done :: rest → s.aPwr = true → AtRow s .enable 2 →
    exec (.enable true) s = .next (afterDelay s 600 rest 3))

/-- 42_init_power R165: the rows of NEW, each answered without error. The register of `AVDDS` and the codes are those of assumption
log 9 and 10. -/
def Obligations.NewRows : Prop :=
  (∀ (s : State) (x : BusAnswer) (rest : List BusIn) (ldo : BitVec 4) (gain rate : BitVec 3),
    s.busIn = .answer x :: rest → x.ok = true → s.aLdo = ldo → s.aGain = gain → s.aRate = rate →
    (AtRow s .new 0 →
      exec (.new ldo gain rate) s = .next (afterRead s 0x00 x rest (Codec.insert x.rb0 (fieldPos .rr) 1) 1)) ∧
    (AtRow s .new 1 → exec (.new ldo gain rate) s = .next (afterWrite s 0x00 rest 2)) ∧
    (AtRow s .new 3 →
      exec (.new ldo gain rate) s = .next (afterRead s 0x00 x rest
        (Codec.insert (Codec.insert x.rb0 (fieldPos .rr) 0) (fieldPos .pud) 1) 4)) ∧
    (AtRow s .new 4 → exec (.new ldo gain rate) s = .next (afterWrite s 0x00 rest 5)) ∧
    (AtRow s .new 6 →
      exec (.new ldo gain rate) s = .next (if Codec.extract x.rb0 (fieldPos .pur) = 1
        then afterRead s 0x00 x rest x.rb0 7 else endedByRead s 0x00 x rest .notReady 0)) ∧
    (AtRow s .new 7 →
      exec (.new ldo gain rate) s = .next (afterRead s 0x00 x rest
        (Codec.insert (Codec.insert x.rb0 (fieldPos .pud) 1) (fieldPos .pua) 1) 8)) ∧
    (AtRow s .new 8 → exec (.new ldo gain rate) s = .next (afterWrite s 0x00 rest 9)) ∧
    (AtRow s .new 10 →
      exec (.new ldo gain rate) s = .next (afterRead s 0x00 x rest (Codec.insert x.rb0 (fieldPos .cs) 1) 11)) ∧
    (AtRow s .new 11 → exec (.new ldo gain rate) s = .next (afterWrite s 0x00 rest 12)) ∧
    (AtRow s .new 12 →
      exec (.new ldo gain rate) s = .next (if Codec.extract x.rb0 (fieldPos .pur) = 1
        then afterRead s 0x00 x rest x.rb0 13 else endedByRead s 0x00 x rest .notReady 0)) ∧
    (AtRow s .new 13 →
      exec (.new ldo gain rate) s = .next (if Codec.extract x.rb0 (fieldPos .revId) = 0xF
        then afterRead s 0x1F x rest x.rb0 14
        else endedByRead s 0x1F x rest .revisionMismatch ((Codec.extract x.rb0 (fieldPos .revId)).setWidth 32))) ∧
    (AtRow s .new 14 →
      exec (.new ldo gain rate) s = .next (afterRead s 0x00 x rest
        (Codec.insert x.rb0 (fieldPos .avdds) (if ldo = 8 then 0 else 1)) 15)) ∧
    (AtRow s .new 15 →
      exec (.new ldo gain rate) s = .next (afterWrite s 0x00 rest (if ldo = 8 then 18 else 16))) ∧
    (AtRow s .new 16 → ldo ≠ 8 →
      exec (.new ldo gain rate) s = .next (afterRead s 0x01 x rest
        (Codec.insert x.rb0 (fieldPos .vldo) (ldo.extractLsb' 0 3)) 17)) ∧
    (AtRow s .new 17 → ldo ≠ 8 → exec (.new ldo gain rate) s = .next (afterWrite s 0x01 rest 18)) ∧
    (AtRow s .new 18 →
      exec (.new ldo gain rate) s = .next (afterRead s 0x01 x rest (Codec.insert x.rb0 (fieldPos .gains) gain) 19)) ∧
    (AtRow s .new 19 → exec (.new ldo gain rate) s = .next (afterWrite s 0x01 rest 20)) ∧
    (AtRow s .new 20 →
      exec (.new ldo gain rate) s = .next (afterRead s 0x02 x rest (Codec.insert x.rb0 (fieldPos .crs) rate) 21)) ∧
    (AtRow s .new 21 → exec (.new ldo gain rate) s = .next (afterWrite s 0x02 rest 22)) ∧
    (AtRow s .new 22 →
      exec (.new ldo gain rate) s = .next (afterRead s 0x15 x rest (Codec.insert x.rb0 (fieldPos .regChps) 0b11) 23)) ∧
    (AtRow s .new 23 → exec (.new ldo gain rate) s = .next (afterWrite s 0x15 rest 24)) ∧
    (AtRow s .new 24 →
      exec (.new ldo gain rate) s = .next (afterRead s 0x1B x rest (Codec.insert x.rb0 (fieldPos .ldoMode) 0) 25)) ∧
    (AtRow s .new 25 → exec (.new ldo gain rate) s = .next (afterWrite s 0x1B rest 26)) ∧
    (AtRow s .new 26 →
      exec (.new ldo gain rate) s = .next (afterRead s 0x1C x rest (Codec.insert x.rb0 (fieldPos .pgaCapEn) 1) 27)) ∧
    (AtRow s .new 27 →
      exec (.new ldo gain rate) s = .next { endedByWrite s 0x1C rest with hvalid := true })) ∧
  (∀ (s : State) (rest : List DlyIn) (ldo : BitVec 4) (gain rate : BitVec 3),
    s.dlyIn = .done :: rest → s.aLdo = ldo → s.aGain = gain → s.aRate = rate →
    (AtRow s .new 2 → exec (.new ldo gain rate) s = .next (afterDelay s 10 rest 3)) ∧
    (AtRow s .new 5 → exec (.new ldo gain rate) s = .next (afterDelay s 1 rest 6)) ∧
    (AtRow s .new 9 → exec (.new ldo gain rate) s = .next (afterDelay s 600 rest 10)))

/-- 43_readout R180: AVAILABLE returns the conversion-ready flag as read. -/
def Obligations.AvailableReturnsTheFlag : Prop :=
  ∀ (s : State) (x : BusAnswer) (rest : List BusIn), AtRow s .available 0 → s.busIn = .answer x :: rest → x.ok = true →
    exec .available s =
      .next (endedByRead s 0x00 x rest .ok ((Codec.extract x.rb0 (fieldPos .cr)).setWidth 32))

/-- 43_readout R181: READ takes the three bytes of one burst and returns them as a sign-extended word, also left in `ACC`. -/
def Obligations.ReadReturnsTheSignedResult : Prop :=
  ∀ (s : State) (x : BusAnswer) (rest : List BusIn), AtRow s .read 0 → s.busIn = .answer x :: rest → x.ok = true →
    exec .read s =
      .next { s with
        phase := .idle
        busIn := rest
        acc := ((x.rb0 ++ x.rb1 ++ x.rb2 : BitVec 24)).signExtend 32
        trace := .rsp .ok (((x.rb0 ++ x.rb1 ++ x.rb2 : BitVec 24)).signExtend 32) ::
          .rd3 0x12 x.rb0 x.rb1 x.rb2 :: s.trace }

/-- 44_config R190: the rows of SET_LDO, each answered without error; with External it ends after the enable bit, and rows 2 and 3
are no rows of it. The register of `AVDDS` is that of assumption log 9. -/
def Obligations.SetLdoRows : Prop :=
  ∀ (s : State) (x : BusAnswer) (rest : List BusIn) (ldo : BitVec 4),
    s.busIn = .answer x :: rest → x.ok = true → s.aLdo = ldo →
    (AtRow s .setLdo 0 →
      exec (.setLdo ldo) s = .next (afterRead s 0x00 x rest
        (Codec.insert x.rb0 (fieldPos .avdds) (if ldo = 8 then 0 else 1)) 1)) ∧
    (AtRow s .setLdo 1 → ldo = 8 → exec (.setLdo ldo) s = .next (endedByWrite s 0x00 rest)) ∧
    (AtRow s .setLdo 1 → ldo ≠ 8 → exec (.setLdo ldo) s = .next (afterWrite s 0x00 rest 2)) ∧
    (AtRow s .setLdo 2 → ldo ≠ 8 →
      exec (.setLdo ldo) s = .next (afterRead s 0x01 x rest
        (Codec.insert x.rb0 (fieldPos .vldo) (ldo.extractLsb' 0 3)) 3)) ∧
    (AtRow s .setLdo 3 → ldo ≠ 8 → exec (.setLdo ldo) s = .next (endedByWrite s 0x01 rest))

/-- 44_config R191: the rows of GET_LDO; a clear enable bit is External, and the selector is not read.
The register of `AVDDS` is that of assumption log 9. -/
def Obligations.GetLdoRows : Prop :=
  ∀ (s : State) (x : BusAnswer) (rest : List BusIn), s.busIn = .answer x :: rest → x.ok = true →
    (AtRow s .getLdo 0 →
      exec .getLdo s = .next (if Codec.extract x.rb0 (fieldPos .avdds) = 0
        then endedByRead s 0x00 x rest .ok 8 else afterRead s 0x00 x rest x.rb0 1)) ∧
    (AtRow s .getLdo 1 →
      exec .getLdo s = .next (endedByRead s 0x01 x rest .ok ((Codec.extract x.rb0 (fieldPos .vldo)).setWidth 32)))

/-- 44_config R192: the rows of SET_GAIN. -/
def Obligations.SetGainRows : Prop :=
  ∀ (s : State) (x : BusAnswer) (rest : List BusIn) (gain : BitVec 3),
    s.busIn = .answer x :: rest → x.ok = true → s.aGain = gain →
    (AtRow s .setGain 0 →
      exec (.setGain gain) s = .next (afterRead s 0x01 x rest (Codec.insert x.rb0 (fieldPos .gains) gain) 1)) ∧
    (AtRow s .setGain 1 → exec (.setGain gain) s = .next (endedByWrite s 0x01 rest))

/-- 44_config R193: GET_GAIN returns the gain code as read; no code raises. -/
def Obligations.GetGainReturnsTheCode : Prop :=
  ∀ (s : State) (x : BusAnswer) (rest : List BusIn), AtRow s .getGain 0 → s.busIn = .answer x :: rest → x.ok = true →
    exec .getGain s =
      .next (endedByRead s 0x01 x rest .ok ((Codec.extract x.rb0 (fieldPos .gains)).setWidth 32))

/-- 44_config R194: the rows of SET_RATE. -/
def Obligations.SetRateRows : Prop :=
  ∀ (s : State) (x : BusAnswer) (rest : List BusIn) (rate : BitVec 3),
    s.busIn = .answer x :: rest → x.ok = true → s.aRate = rate →
    (AtRow s .setRate 0 →
      exec (.setRate rate) s = .next (afterRead s 0x02 x rest (Codec.insert x.rb0 (fieldPos .crs) rate) 1)) ∧
    (AtRow s .setRate 1 → exec (.setRate rate) s = .next (endedByWrite s 0x02 rest))

/-- 44_config R195: GET_RATE returns the rate code as read, and raises InvalidData on the reserved codes 4, 5, 6. -/
def Obligations.GetRateReturnsTheCodeOrRaises : Prop :=
  ∀ (s : State) (x : BusAnswer) (rest : List BusIn), AtRow s .getRate 0 → s.busIn = .answer x :: rest → x.ok = true →
    exec .getRate s =
      .next (if (Codec.extract x.rb0 (fieldPos .crs)).toNat ∈ [4, 5, 6]
        then endedByRead s 0x02 x rest .invalidData 0
        else endedByRead s 0x02 x rest .ok ((Codec.extract x.rb0 (fieldPos .crs)).setWidth 32))

/-- 45_calibrate R205: the rows of CALIBRATE; the error flag is that of the poll that shows `CALS` 0. The register
is that of assumption log 9. -/
def Obligations.CalibrateRows : Prop :=
  (∀ (s : State) (x : BusAnswer) (rest : List BusIn) (mode : BitVec 2),
    s.busIn = .answer x :: rest → x.ok = true → s.aMode = mode →
    (AtRow s .calibrate 0 →
      exec (.calibrate mode) s = .next (afterRead s 0x02 x rest
        (Codec.insert (Codec.insert x.rb0 (fieldPos .calmod) mode) (fieldPos .cals) 1) 1)) ∧
    (AtRow s .calibrate 1 → exec (.calibrate mode) s = .next (afterWrite s 0x02 rest 2)) ∧
    (AtRow s .calibrate 2 →
      exec (.calibrate mode) s = .next (if Codec.extract x.rb0 (fieldPos .cals) = 1
        then afterRead s 0x02 x rest x.rb0 3
        else endedByRead s 0x02 x rest
          (if Codec.extract x.rb0 (fieldPos .calErr) = 1 then .calibrationError else .ok) 0))) ∧
  (∀ (s : State) (rest : List DlyIn) (mode : BitVec 2), s.dlyIn = .done :: rest → s.aMode = mode →
    AtRow s .calibrate 3 → exec (.calibrate mode) s = .next (afterDelay s 10 rest 2))

/-! ### The bus requests -/

/-- 41_primitives R151: when `write_register(a, v)` is outstanding and answered without error, executing it is the transition of
the command in progress; its trace item is added, one answer is used up, `T`, `ACC` and the latches are unchanged, and `HVALID` too but at NEW's last
row, which sets it. -/
def Obligations.BusWriteCompletes : Prop :=
  ∀ (s : State) (a v : Byte) (x : BusAnswer) (rest : List BusIn),
    outstanding s = some (.write a v) → s.busIn = .answer x :: rest → x.ok = true →
    ∃ t, exec (.busWrite a v) s = .next t ∧ exec (running s) s = .next t ∧
      (t.trace = .wr a v :: s.trace ∧ t.phase = .run ∨ t.trace = .rsp .ok 0 :: .wr a v :: s.trace ∧ t.phase = .idle) ∧
      t.busIn = rest ∧ t.t = s.t ∧ t.acc = s.acc ∧
      t.hvalid = (s.hvalid || (s.seq.op == .new && s.seq.step == 27)) ∧
      t.seq.op = s.seq.op ∧ t.aLdo = s.aLdo ∧ t.aGain = s.aGain ∧
      t.aRate = s.aRate ∧ t.aMode = s.aMode ∧ t.aPwr = s.aPwr ∧ t.rst = s.rst ∧ t.cmdIn = s.cmdIn ∧ t.dlyIn = s.dlyIn ∧
      t.freeCtr = s.freeCtr

/-- 41_primitives R150: when `read_register(a)` is outstanding and answered without error, executing it is the transition of the
command in progress; its trace item is added and one answer is used up. `T` is the byte read (R24), but for the target fields of the
write that follows, if one does; `ACC`, the handle and the latches are unchanged. -/
def Obligations.BusReadOneCompletes : Prop :=
  ∀ (s : State) (a : Byte) (x : BusAnswer) (rest : List BusIn),
    outstanding s = some (.read a) → s.busIn = .answer x :: rest → x.ok = true →
    ∃ t, exec (.busRead1 a) s = .next t ∧ exec (running s) s = .next t ∧
      (t.trace = .rd a x.rb0 :: s.trace ∧ t.phase = .run ∧
          t.t &&& ~~~ targetMask t.seq.op t.seq.step = x.rb0 &&& ~~~ targetMask t.seq.op t.seq.step ∨
        ∃ st d, t.trace = .rsp st d :: .rd a x.rb0 :: s.trace ∧ t.phase = .idle ∧ t.t = x.rb0) ∧
      t.busIn = rest ∧ t.acc = s.acc ∧ t.hvalid = s.hvalid ∧ t.seq.op = s.seq.op ∧ t.aLdo = s.aLdo ∧
      t.aGain = s.aGain ∧ t.aRate = s.aRate ∧ t.aMode = s.aMode ∧ t.aPwr = s.aPwr ∧ t.rst = s.rst ∧
      t.cmdIn = s.cmdIn ∧ t.dlyIn = s.dlyIn ∧ t.freeCtr = s.freeCtr

/-- 41_primitives R152: when the result burst is outstanding and answered without error, its three bytes are assembled and
sign-extended into `ACC` and returned. -/
def Obligations.BusReadThreeCompletes : Prop :=
  ∀ (s : State) (x : BusAnswer) (rest : List BusIn),
    outstanding s = some .burst → s.busIn = .answer x :: rest → x.ok = true →
    exec .busRead3 s =
      .next { s with
        phase := .idle
        busIn := rest
        acc := Codec.sext24 (Codec.assemble24 x.rb0 x.rb1 x.rb2)
        trace := .rsp .ok (Codec.sext24 (Codec.assemble24 x.rb0 x.rb1 x.rb2)) ::
          .rd3 0x12 x.rb0 x.rb1 x.rb2 :: s.trace }

/-! ### Errors and responses -/

/-- 60_exceptions R216, R222: a bus answer with `OK` = 0 at any bus row of any operation ends it: response TRANSPORT with the
error kind unchanged, IDLE, one answer used up, and nothing else changes. A delay row raises nothing. -/
def Obligations.TransportErrorEndsTheOperation : Prop :=
  (∀ (s : State) (act : Action) (q : ReqWord) (x : BusAnswer) (rest : List BusIn),
    s.rst = false → outstanding s = some act → requestWord act = some q →
    s.busIn = .answer x :: rest → x.ok = false →
    step s = .next { s with
      phase := .idle
      busIn := rest
      trace := .rsp .transport (x.errk.setWidth 32) :: errorItem act x.errk :: s.trace }) ∧
  (∀ (s : State) (ms : BitVec 10) (rest : List DlyIn),
    s.rst = false → outstanding s = some (.delay ms) → s.dlyIn = .done :: rest →
    ∃ k, step s = .next (afterDelay s ms rest k))

/-- 60_exceptions R221, R222, R226: a step without block reset that ends an operation delivers one response after the item of its
last action, with a status its operation can end with (and data 0 for the three kinds without payload); `HVALID` becomes 1 by a
NEW that ends OK and is otherwise unchanged. The response port carries the status by its number of 30_encoding R113: 0 to 5 in the
order of the table for an operation that ends, 7 for REFUSED, never 6. Each status the table of R226 allows does occur. -/
def Obligations.OperationsEndAsTabled : Prop :=
  (∀ s t : State, s.phase = .run → s.rst = false → step s = .next t → t.phase = .idle →
    ∃ st d item, t.trace = .rsp st d :: item :: s.trace ∧ mayEnd s.seq.op s.aPwr st = true ∧
      portWords t.trace = (statusCode st, d) :: portWords s.trace ∧ (statusCode st).toNat ≤ 5 ∧
      (st = .notReady ∨ st = .invalidData ∨ st = .calibrationError → d = 0) ∧
      (t.hvalid = true ↔ s.hvalid = true ∨ (s.seq.op = .new ∧ st = .ok))) ∧
  (∀ (op : Op) (pwr : Bool) (st : Status), mayEnd op pwr st = true →
    ∃ s t d item, ControlOk s ∧ s.phase = .run ∧ s.rst = false ∧ s.seq.op = op ∧ s.aPwr = pwr ∧
      step s = .next t ∧ t.phase = .idle ∧ t.trace = .rsp st d :: item :: s.trace) ∧
  statusCode .ok = 0 ∧ statusCode .transport = 1 ∧ statusCode .notReady = 2 ∧ statusCode .invalidData = 3 ∧
  statusCode .calibrationError = 4 ∧ statusCode .revisionMismatch = 5 ∧ statusCode .refused = 7 ∧
  (∀ st, statusCode st ≠ 6)

/-- 30_encoding R112: one response for each consumed word. An idle step that consumes a word either starts an operation with no
response, or stays idle with the one response REFUSED, on the port (7, 0) (R113); a step in RUN delivers a response exactly when it ends the operation; block
reset delivers none. -/
def Obligations.OneResponsePerConsumedWord : Prop :=
  ∀ s t : State, step s = .next t →
    (s.rst = true → t.trace = s.trace) ∧
    (s.rst = false → s.phase = .idle → s.cmdIn = [] → t = s) ∧
    (s.rst = false → s.phase = .idle → s.cmdIn ≠ [] → t.cmdIn = s.cmdIn.tail ∧
      ((t.phase = .run ∧ t.trace = s.trace) ∨
        (t.phase = .idle ∧ t.trace = .rsp .refused 0 :: s.trace ∧ portWords t.trace = (7, 0) :: portWords s.trace))) ∧
    (s.rst = false → s.phase = .run →
      (t.phase = .run ∧ portWords t.trace = portWords s.trace) ∨
      (t.phase = .idle ∧ (portWords t.trace).length = (portWords s.trace).length + 1))

/-! ### Block reset -/

/-- 70_reset_and_hazards R250 in IDLE and R251 in RUN: block reset, in any state and whatever else waits (it goes first: assumption
log 8), leaves the block IDLE with no handle and nothing outstanding, issues
nothing and delivers no response. Nothing is said of `T`, `ACC` and the latches. -/
def Obligations.BlockResetStopsEverything : Prop :=
  ∀ s : State, s.rst = true →
    ∃ t, step s = .next t ∧ t.phase = .idle ∧ t.busy = false ∧ t.hvalid = false ∧ outstanding t = none ∧ t.trace = s.trace

/-- 10_state R44: the state after block reset is IDLE, not busy, without a handle, with nothing outstanding. -/
def Obligations.ResetStateIsIdleWithoutHandle : Prop :=
  State.reset.phase = .idle ∧ State.reset.busy = false ∧ State.reset.hvalid = false ∧ outstanding State.reset = none

/-- The model's reading of 70_reset_and_hazards R251 (assumption log 6, 8, 20): block reset uses up its own event, keeps the
words that wait at the command port, and in IDLE keeps both answer ports; the answer that waits for an action when block reset
abandons it becomes a late one, and a late answer is discarded with no other effect. -/
def Obligations.AbandonedAnswersAreDiscarded : Prop :=
  (∀ s : State, s.rst = true →
    ∃ t, step s = .next t ∧ t.rst = false ∧ t.cmdIn = s.cmdIn ∧
      (s.phase = .idle → t.busIn = s.busIn ∧ t.dlyIn = s.dlyIn)) ∧
  (∀ (s : State) (act : Action) (q : ReqWord) (x : BusAnswer) (rest : List BusIn),
    s.rst = true → outstanding s = some act → requestWord act = some q → s.busIn = .answer x :: rest →
    ∃ t, step s = .next t ∧ t.busIn = .late x :: rest ∧ t.dlyIn = s.dlyIn) ∧
  (∀ (s : State) (ms : BitVec 10) (rest : List DlyIn),
    s.rst = true → outstanding s = some (.delay ms) → s.dlyIn = .done :: rest →
    ∃ t, step s = .next t ∧ t.dlyIn = .late :: rest ∧ t.busIn = s.busIn) ∧
  (∀ (s : State) (act : Action) (q : ReqWord) (x : BusAnswer) (rest : List BusIn),
    s.rst = false → outstanding s = some act → requestWord act = some q → s.busIn = .late x :: rest →
    step s = .next { s with busIn := rest }) ∧
  (∀ (s : State) (ms : BitVec 10) (rest : List DlyIn),
    s.rst = false → outstanding s = some (.delay ms) → s.dlyIn = .late :: rest →
    step s = .next { s with dlyIn := rest })

/-! ### Whole operations -/

/-- 45_calibrate R206 item 1, with the register 0x02 and the fields of assumption log 9: with N polls that show `CALS` 1 before the first that shows 0, CALIBRATE issues N + 1 polls and N
delays of 10 ms in strict alternation, 2N + 3 actions in all, and ends OK or with CalibrationError by `CAL_ERR` of the last poll.
The whole state at the end is given. -/
def Obligations.CalibratePollsUntilClear : Prop :=
  ∀ (s : State) (first written last : BusAnswer) (busy : List BusAnswer) (bs : List BusIn) (ds : List DlyIn),
    AtRow s .calibrate 0 → s.rst = false →
    first.ok = true → written.ok = true → last.ok = true →
    (∀ x ∈ busy, x.ok = true ∧ Codec.extract x.rb0 (fieldPos .cals) = 1) →
    Codec.extract last.rb0 (fieldPos .cals) = 0 →
    s.busIn = .answer first :: .answer written :: (busy.map .answer ++ .answer last :: bs) →
    s.dlyIn = List.replicate busy.length .done ++ ds →
    steps (2 * busy.length + 3) s = .next { s with
      phase := .idle
      seq := ⟨.calibrate, 2⟩
      t := last.rb0
      busIn := bs
      dlyIn := ds
      trace :=
        .rsp (if Codec.extract last.rb0 (fieldPos .calErr) = 1 then .calibrationError else .ok) 0 ::
        .rd 0x02 last.rb0 ::
        (busy.reverse.flatMap (fun x => [.dly 10, .rd 0x02 x.rb0]) ++
          .wr 0x02 (Codec.insert (Codec.insert first.rb0 (fieldPos .calmod) s.aMode) (fieldPos .cals) 1) ::
          .rd 0x02 first.rb0 :: s.trace) }

/-- 45_calibrate R206 item 2, with the register and the field of assumption log 9: in every run of a CALIBRATE whose polls all show
`CALS` 1, in which no transaction fails and there is no block reset, the block stays in RUN and busy, delivers no response and takes no
command, and its trace grows without end if its actions are answered again and again. From every state that waits for a poll's answer
such a run exists, with a trace that grows without end. -/
def Obligations.CalibrateMayNeverEnd : Prop :=
  (∀ f : Nat → State, BusyRun f → (f 0).phase = .run → (f 0).seq.op = .calibrate →
    (∀ n, (f n).phase = .run ∧ (f n).busy = true ∧ (f n).seq.op = .calibrate ∧
      portWords (f n).trace = portWords (f 0).trace ∧ (f 0).cmdIn <+: (f n).cmdIn) ∧
    ((∀ n, ∃ m, n ≤ m ∧ Answered (f m) ∧ step (f m) = .next (f (m + 1))) → ∀ k, ∃ n, k ≤ (f n).trace.length)) ∧
  (∀ s : State, AtRow s .calibrate 2 → s.rst = false → s.busIn = [] → s.dlyIn = [] →
    ∃ f : Nat → State, f 0 = s ∧ BusyRun f ∧ ∀ k, ∃ n, k ≤ (f n).trace.length)

/-- 70_reset_and_hazards R262, 45_calibrate: if the environment answers, every operation but CALIBRATE ends, after at most as many
steps as the longest table has rows. -/
def Obligations.AllButCalibrateEnd : Prop :=
  ∀ (s : State) (xs : List BusAnswer) (bs : List BusIn) (ds : List DlyIn),
    SeqOk s → s.phase = .run → s.rst = false → s.seq.op ≠ .calibrate →
    s.busIn = xs.map .answer ++ bs → 28 ≤ xs.length → s.dlyIn = List.replicate 3 .done ++ ds →
    ∃ n t, 1 ≤ n ∧ n ≤ 28 ∧ steps n s = .next t ∧ t.phase = .idle

/-- The step tables do what the pseudocode of the same rules does (42_init_power R165 to R168, 43_readout R180, R181, 44_config
R190 to R195, 45_calibrate R205): for every legal command accepted in IDLE and every list of bus answers on which its pseudocode
ends, the machine ends with the same trace, the same response and the same answers left over, and `HVALID` is as 10_state R27
says. The addresses 0x00 of `AVDDS` and 0x02 of calibration are those of assumption log 9; that NEW_DEFAULT's pseudocode is that of
NEW 4 7 3 is log 10 and 13. -/
def Obligations.OperationsFollowTheirPseudocode : Prop :=
  ∀ (i : Instr) (op : Op) (p : Pseudo.Prog) (fuel : Nat) (s : State) (xs : List BusAnswer) (m : Nat) (e : Pseudo.Ending),
    i.op? = some op → i.wf = true → Pseudo.progOf fuel i = some p →
    s.phase = .idle → s.rst = false → (op = .new ∨ s.hvalid = true) →
    s.busIn = xs.map .answer → s.dlyIn = List.replicate m .done → xs.length ≤ m →
    p.eval xs = some e →
    ∃ a n t, exec i s = .next a ∧ steps n a = .next t ∧ t.phase = .idle ∧
      t.trace = .rsp e.status e.data :: (e.items.reverse ++ s.trace) ∧
      t.busIn = e.rest.map .answer ∧
      t.hvalid = (if op = .new then decide (e.status = .ok) else s.hvalid)

/-- 42_init_power R169: NEW contains RESET, ENABLE with operand 1, SET_LDO, SET_GAIN and SET_RATE. A row of such a part, run
inside NEW at its renumbered place and with the latches as they are, does exactly what it does when the part is commanded alone, but that the part's normal end
continues with NEW's next row in place of a response, and that an error of the part is NEW's error, with the same response. -/
def Obligations.NewIsTheConcatenationOfItsParts : Prop :=
  ∀ (s t : State) (op : Op) (first count k : Nat),
    (op, first, count) ∈ [(Op.reset, 0, 7), (Op.enable, 7, 6), (Op.setLdo, 14, 4), (Op.setGain, 18, 2), (Op.setRate, 20, 2)] →
    k < count → s.rst = false → (op = .enable → s.aPwr = true) →
    step { s with phase := .run, seq := ⟨op, k⟩ } = .next t →
    (t.phase = .run →
      step { s with phase := .run, seq := ⟨.new, first + k⟩ } = .next { t with seq := ⟨.new, first + t.seq.step⟩ }) ∧
    (t.phase = .idle → ∀ st d, t.trace.head? = some (.rsp st d) →
      (st = .ok →
        step { s with phase := .run, seq := ⟨.new, first + k⟩ } =
          .next { t with phase := .run, seq := ⟨.new, first + count⟩, trace := t.trace.tail }) ∧
      (st ≠ .ok →
        step { s with phase := .run, seq := ⟨.new, first + k⟩ } = .next { t with seq := ⟨.new, first + k⟩ }))

/-! ### Invariants and rules of the whole machine -/

/-- 10_state R22, R26, R27: every step keeps the control state one that the spec describes: in RUN `SEQ` names a row, the operands
of the command in progress are legal, and `HVALID` is 0 exactly in NEW. -/
def Obligations.StepKeepsControlOk : Prop :=
  ∀ s t : State, ControlOk s → step s = .next t → ControlOk t

/-- The state after block reset has the three invariants. -/
def Obligations.ResetHasTheInvariants : Prop :=
  ControlOk State.reset ∧ NoBlindWrite State.reset ∧ SelectorOk State.reset

/-- Every state with the control invariant has a next step, reached or not: no fault and no refusal is met (60_exceptions R229: what
the block meets is answered, or waited for). Every move of the environment keeps the invariant, so with `StepKeepsControlOk` every
state reached from block reset has it and has a next step. -/
def Obligations.ReachableStatesNeverStop : Prop :=
  (∀ s : State, ControlOk s → ∃ t, step s = .next t) ∧
  (∀ s t : State, ControlOk s → EnvMove s t → ControlOk t) ∧
  (∀ s : State, Reachable s → ControlOk s ∧ ∃ t, step s = .next t)

/-- 70_reset_and_hazards R259, 10_state R32: never a blind write. Every step keeps it that an outstanding write follows
immediately on a read of the same register and carries the byte read, unchanged outside the target fields. -/
def Obligations.StepKeepsNoBlindWrite : Prop :=
  ∀ s t : State, NoBlindWrite s → step s = .next t → NoBlindWrite t

/-- 10_state R27: `HVALID` changes only by block reset and by the accepting of NEW, which clear it, and by the last row of a NEW,
which sets it with the response OK. -/
def Obligations.HandleChangesOnlyByNewAndReset : Prop :=
  ∀ s t : State, step s = .next t → t.hvalid ≠ s.hvalid →
    (s.rst = true ∧ t.hvalid = false) ∨
    (s.rst = false ∧ s.phase = .idle ∧ AtRow t .new 0 ∧ t.hvalid = false ∧
      ∃ w i, s.cmdIn.head? = some w ∧ decodeCmd w = .ok i ∧ i.op? = some .new) ∨
    (s.rst = false ∧ AtRow s .new 27 ∧ t.hvalid = true ∧ t.phase = .idle ∧
      ∃ item, t.trace = .rsp .ok 0 :: item :: s.trace)

/-- 10_state R25: without block reset, `ACC` changes only in READ, when its burst is answered. -/
def Obligations.AccIsWrittenOnlyByRead : Prop :=
  ∀ s t : State, s.rst = false → step s = .next t → t.acc ≠ s.acc →
    AtRow s .read 0 ∧ ∃ x rest, s.busIn = .answer x :: rest ∧ x.ok = true ∧
      t.acc = Codec.sext24 (Codec.assemble24 x.rb0 x.rb1 x.rb2)

/-- 10_state R26: without block reset, the operand latches are constant while an operation runs, and each is written only when one
of its commands is accepted. -/
def Obligations.LatchesAreWrittenOnlyAtAcceptance : Prop :=
  ∀ s t : State, s.rst = false → step s = .next t →
    (s.phase = .run →
      t.aLdo = s.aLdo ∧ t.aGain = s.aGain ∧ t.aRate = s.aRate ∧ t.aMode = s.aMode ∧ t.aPwr = s.aPwr) ∧
    (t.aLdo ≠ s.aLdo → t.phase = .run ∧ t.seq.step = 0 ∧ (t.seq.op = .new ∨ t.seq.op = .setLdo)) ∧
    (t.aGain ≠ s.aGain → t.phase = .run ∧ t.seq.step = 0 ∧ (t.seq.op = .new ∨ t.seq.op = .setGain)) ∧
    (t.aRate ≠ s.aRate → t.phase = .run ∧ t.seq.step = 0 ∧ (t.seq.op = .new ∨ t.seq.op = .setRate)) ∧
    (t.aMode ≠ s.aMode → t.phase = .run ∧ t.seq.step = 0 ∧ t.seq.op = .calibrate) ∧
    (t.aPwr ≠ s.aPwr → t.phase = .run ∧ t.seq.step = 0 ∧ t.seq.op = .enable)

/-- 10_state R24, R25, R28: `T`, `ACC`, the latches and `SEQ` are dead between operations. Two states that differ only in dead
registers run in step for ever, with equal traces: no operation reads `T`, `ACC` or a latch before it has written it. -/
def Obligations.DeadRegistersAreNeverObserved : Prop :=
  ∀ (n : Nat) (s u t : State), SameButDead s u → steps n s = .next t → ∃ v, steps n u = .next v ∧ SameButDead t v

/-- 20_memory R61, 10_state R41: an operation reads and writes no register but those its column of the access table names; SET_LDO
with External does not reach 0x01, the burst belongs to READ alone, and the revision register is never written. The register of
`AVDDS` is that of assumption log 9. -/
def Obligations.OperationsReachOnlyTheirRegisters : Prop :=
  ∀ (s : State) (a : Byte),
    (outstanding s = some (.read a) → a ∈ readsOf s.aLdo s.seq.op) ∧
    (∀ v, outstanding s = some (.write a v) → a ∈ writesOf s.aLdo s.seq.op ∧ a ≠ 0x1F) ∧
    (outstanding s = some .burst → s.seq.op = .read) ∧
    (s.seq.op = .setLdo → s.aLdo = 8 → outstanding s ≠ some (.read 0x01) ∧ ∀ v, outstanding s ≠ some (.write 0x01 v))

/-- 20_memory R61 (GET_LDO reads 0x01 "not when `AVDDS` = 0"), with the register of `AVDDS` of assumption log 9: every step keeps it
that a GET_LDO with the read of 0x01 outstanding has just read `AVDDS` as 1. -/
def Obligations.StepKeepsSelectorOk : Prop :=
  ∀ s t : State, SelectorOk s → step s = .next t → SelectorOk t
end

