-- ==== Sys2Proof/Laws/Codec.lean ====
section
/-! SUPPORT. What the codec's functions are on the fields the machine uses: field access as bit slices, and the legal codes as
sets of numbers. -/

namespace Sys2Proof.Codec

open Sys2Proof.Params

theorem extract_eq (b : Byte) (F : BitField) : extract b F = b.extractLsb' F.lsb F.width := rfl

/-- A one-bit flag is one bit of the byte. -/
theorem isSet_eq_getLsbD (b : Byte) (F : BitField) (h : F.width = 1) : isSet b F = b.getLsbD F.lsb := by
  obtain ⟨reg, lsb, width, fits⟩ := F
  subst h
  simp only [isSet, extract]
  cases hb : b.getLsbD lsb
  · rw [beq_eq_false_iff_ne]
    intro he
    have := congrArg (fun v : BitVec 1 => v.getLsbD 0) he
    simp [hb] at this
  · rw [beq_iff_eq]
    apply BitVec.eq_of_getLsbD_eq
    intro i hi
    obtain rfl : i = 0 := by omega
    simp [hb]

theorem ofBool_one (v : Bool) : ofBool 1 v = BitVec.ofBool v := by cases v <;> rfl

theorem decGain_isSome (c : BitVec 3) : (decGain c).isSome = true := by decide +revert

theorem decRate_isSome (c : BitVec 3) : (decRate c).isSome = true ↔ ¬(c = 4 ∨ c = 5 ∨ c = 6) := by decide +revert

theorem decLdo_isSome (c : BitVec 4) : (decLdo c).isSome = true ↔ c.toNat ≤ 8 := by decide +revert

theorem decCalMode_isSome (c : BitVec 2) : (decCalMode c).isSome = true ↔ c ≠ 1 := by decide +revert

end Sys2Proof.Codec

namespace Sys2Proof

theorem gainLegal_eq (c : BitVec 3) : gainLegal c = true := Codec.decGain_isSome c

theorem rateLegal_iff (c : BitVec 3) : rateLegal c = true ↔ ¬(c = 4 ∨ c = 5 ∨ c = 6) := Codec.decRate_isSome c

theorem ldoLegal_iff (c : BitVec 4) : ldoLegal c = true ↔ c.toNat ≤ 8 := Codec.decLdo_isSome c

theorem modeLegal_iff (c : BitVec 2) : modeLegal c = true ↔ c ≠ 1 := Codec.decCalMode_isSome c

end Sys2Proof

namespace Sys2Proof.Machine

/-- `PUR` is bit 3 of `T`. -/
theorem State.pur_eq (s : State) : s.pur = s.t.getLsbD 3 := Codec.isSet_eq_getLsbD _ _ rfl
/-- `CR` is bit 5 of `T`. -/
theorem State.cr_eq (s : State) : s.cr = s.t.getLsbD 5 := Codec.isSet_eq_getLsbD _ _ rfl
/-- `CALS` is bit 2 of `T`. -/
theorem State.cals_eq (s : State) : s.cals = s.t.getLsbD 2 := Codec.isSet_eq_getLsbD _ _ rfl
/-- `CAL_ERR` is bit 3 of `T`. -/
theorem State.calErr_eq (s : State) : s.calErr = s.t.getLsbD 3 := Codec.isSet_eq_getLsbD _ _ rfl
/-- `AVDDS` is bit 7 of `T`. -/
theorem State.avdds_eq (s : State) : s.avdds = s.t.getLsbD 7 := Codec.isSet_eq_getLsbD _ _ rfl

end Sys2Proof.Machine
end

