-- ==== Sys2Proof/Laws/State.lean ====
section
/-! SUPPORT. One lemma per field per update of the state, each true by rfl, so that no later proof unfolds a record update. -/

namespace Sys2Proof.Machine

/-! `State.load` -/
@[simp] theorem State.load_phase (s : State) (v : Byte) : (s.load v).phase = s.phase := rfl
@[simp] theorem State.load_seq (s : State) (v : Byte) : (s.load v).seq = s.seq := rfl
@[simp] theorem State.load_t (s : State) (v : Byte) : (s.load v).t = v := rfl
@[simp] theorem State.load_acc (s : State) (v : Byte) : (s.load v).acc = s.acc := rfl
@[simp] theorem State.load_aLdo (s : State) (v : Byte) : (s.load v).aLdo = s.aLdo := rfl
@[simp] theorem State.load_aGain (s : State) (v : Byte) : (s.load v).aGain = s.aGain := rfl
@[simp] theorem State.load_aRate (s : State) (v : Byte) : (s.load v).aRate = s.aRate := rfl
@[simp] theorem State.load_aMode (s : State) (v : Byte) : (s.load v).aMode = s.aMode := rfl
@[simp] theorem State.load_aPwr (s : State) (v : Byte) : (s.load v).aPwr = s.aPwr := rfl
@[simp] theorem State.load_hvalid (s : State) (v : Byte) : (s.load v).hvalid = s.hvalid := rfl
@[simp] theorem State.load_rst (s : State) (v : Byte) : (s.load v).rst = s.rst := rfl
@[simp] theorem State.load_cmdIn (s : State) (v : Byte) : (s.load v).cmdIn = s.cmdIn := rfl
@[simp] theorem State.load_busIn (s : State) (v : Byte) : (s.load v).busIn = s.busIn := rfl
@[simp] theorem State.load_dlyIn (s : State) (v : Byte) : (s.load v).dlyIn = s.dlyIn := rfl
@[simp] theorem State.load_trace (s : State) (v : Byte) : (s.load v).trace = s.trace := rfl
@[simp] theorem State.load_freeCtr (s : State) (v : Byte) : (s.load v).freeCtr = s.freeCtr := rfl

/-! `State.setField` -/
@[simp] theorem State.setField_phase (s : State) (f : FieldName) (v : BitVec (Params.fieldPos f).width) : (s.setField f v).phase = s.phase := rfl
@[simp] theorem State.setField_seq (s : State) (f : FieldName) (v : BitVec (Params.fieldPos f).width) : (s.setField f v).seq = s.seq := rfl
@[simp] theorem State.setField_t (s : State) (f : FieldName) (v : BitVec (Params.fieldPos f).width) : (s.setField f v).t = Codec.insert s.t (Params.fieldPos f) v := rfl
@[simp] theorem State.setField_acc (s : State) (f : FieldName) (v : BitVec (Params.fieldPos f).width) : (s.setField f v).acc = s.acc := rfl
@[simp] theorem State.setField_aLdo (s : State) (f : FieldName) (v : BitVec (Params.fieldPos f).width) : (s.setField f v).aLdo = s.aLdo := rfl
@[simp] theorem State.setField_aGain (s : State) (f : FieldName) (v : BitVec (Params.fieldPos f).width) : (s.setField f v).aGain = s.aGain := rfl
@[simp] theorem State.setField_aRate (s : State) (f : FieldName) (v : BitVec (Params.fieldPos f).width) : (s.setField f v).aRate = s.aRate := rfl
@[simp] theorem State.setField_aMode (s : State) (f : FieldName) (v : BitVec (Params.fieldPos f).width) : (s.setField f v).aMode = s.aMode := rfl
@[simp] theorem State.setField_aPwr (s : State) (f : FieldName) (v : BitVec (Params.fieldPos f).width) : (s.setField f v).aPwr = s.aPwr := rfl
@[simp] theorem State.setField_hvalid (s : State) (f : FieldName) (v : BitVec (Params.fieldPos f).width) : (s.setField f v).hvalid = s.hvalid := rfl
@[simp] theorem State.setField_rst (s : State) (f : FieldName) (v : BitVec (Params.fieldPos f).width) : (s.setField f v).rst = s.rst := rfl
@[simp] theorem State.setField_cmdIn (s : State) (f : FieldName) (v : BitVec (Params.fieldPos f).width) : (s.setField f v).cmdIn = s.cmdIn := rfl
@[simp] theorem State.setField_busIn (s : State) (f : FieldName) (v : BitVec (Params.fieldPos f).width) : (s.setField f v).busIn = s.busIn := rfl
@[simp] theorem State.setField_dlyIn (s : State) (f : FieldName) (v : BitVec (Params.fieldPos f).width) : (s.setField f v).dlyIn = s.dlyIn := rfl
@[simp] theorem State.setField_trace (s : State) (f : FieldName) (v : BitVec (Params.fieldPos f).width) : (s.setField f v).trace = s.trace := rfl
@[simp] theorem State.setField_freeCtr (s : State) (f : FieldName) (v : BitVec (Params.fieldPos f).width) : (s.setField f v).freeCtr = s.freeCtr := rfl

/-! `State.push` -/
@[simp] theorem State.push_phase (s : State) (i : TraceItem) : (s.push i).phase = s.phase := rfl
@[simp] theorem State.push_seq (s : State) (i : TraceItem) : (s.push i).seq = s.seq := rfl
@[simp] theorem State.push_t (s : State) (i : TraceItem) : (s.push i).t = s.t := rfl
@[simp] theorem State.push_acc (s : State) (i : TraceItem) : (s.push i).acc = s.acc := rfl
@[simp] theorem State.push_aLdo (s : State) (i : TraceItem) : (s.push i).aLdo = s.aLdo := rfl
@[simp] theorem State.push_aGain (s : State) (i : TraceItem) : (s.push i).aGain = s.aGain := rfl
@[simp] theorem State.push_aRate (s : State) (i : TraceItem) : (s.push i).aRate = s.aRate := rfl
@[simp] theorem State.push_aMode (s : State) (i : TraceItem) : (s.push i).aMode = s.aMode := rfl
@[simp] theorem State.push_aPwr (s : State) (i : TraceItem) : (s.push i).aPwr = s.aPwr := rfl
@[simp] theorem State.push_hvalid (s : State) (i : TraceItem) : (s.push i).hvalid = s.hvalid := rfl
@[simp] theorem State.push_rst (s : State) (i : TraceItem) : (s.push i).rst = s.rst := rfl
@[simp] theorem State.push_cmdIn (s : State) (i : TraceItem) : (s.push i).cmdIn = s.cmdIn := rfl
@[simp] theorem State.push_busIn (s : State) (i : TraceItem) : (s.push i).busIn = s.busIn := rfl
@[simp] theorem State.push_dlyIn (s : State) (i : TraceItem) : (s.push i).dlyIn = s.dlyIn := rfl
@[simp] theorem State.push_trace (s : State) (i : TraceItem) : (s.push i).trace = i :: s.trace := rfl
@[simp] theorem State.push_freeCtr (s : State) (i : TraceItem) : (s.push i).freeCtr = s.freeCtr := rfl

/-! `State.setAcc` -/
@[simp] theorem State.setAcc_phase (s : State) (v : Data) : (s.setAcc v).phase = s.phase := rfl
@[simp] theorem State.setAcc_seq (s : State) (v : Data) : (s.setAcc v).seq = s.seq := rfl
@[simp] theorem State.setAcc_t (s : State) (v : Data) : (s.setAcc v).t = s.t := rfl
@[simp] theorem State.setAcc_acc (s : State) (v : Data) : (s.setAcc v).acc = v := rfl
@[simp] theorem State.setAcc_aLdo (s : State) (v : Data) : (s.setAcc v).aLdo = s.aLdo := rfl
@[simp] theorem State.setAcc_aGain (s : State) (v : Data) : (s.setAcc v).aGain = s.aGain := rfl
@[simp] theorem State.setAcc_aRate (s : State) (v : Data) : (s.setAcc v).aRate = s.aRate := rfl
@[simp] theorem State.setAcc_aMode (s : State) (v : Data) : (s.setAcc v).aMode = s.aMode := rfl
@[simp] theorem State.setAcc_aPwr (s : State) (v : Data) : (s.setAcc v).aPwr = s.aPwr := rfl
@[simp] theorem State.setAcc_hvalid (s : State) (v : Data) : (s.setAcc v).hvalid = s.hvalid := rfl
@[simp] theorem State.setAcc_rst (s : State) (v : Data) : (s.setAcc v).rst = s.rst := rfl
@[simp] theorem State.setAcc_cmdIn (s : State) (v : Data) : (s.setAcc v).cmdIn = s.cmdIn := rfl
@[simp] theorem State.setAcc_busIn (s : State) (v : Data) : (s.setAcc v).busIn = s.busIn := rfl
@[simp] theorem State.setAcc_dlyIn (s : State) (v : Data) : (s.setAcc v).dlyIn = s.dlyIn := rfl
@[simp] theorem State.setAcc_trace (s : State) (v : Data) : (s.setAcc v).trace = s.trace := rfl
@[simp] theorem State.setAcc_freeCtr (s : State) (v : Data) : (s.setAcc v).freeCtr = s.freeCtr := rfl

/-! `State.setHandle` -/
@[simp] theorem State.setHandle_phase (s : State) (b : Bool) : (s.setHandle b).phase = s.phase := rfl
@[simp] theorem State.setHandle_seq (s : State) (b : Bool) : (s.setHandle b).seq = s.seq := rfl
@[simp] theorem State.setHandle_t (s : State) (b : Bool) : (s.setHandle b).t = s.t := rfl
@[simp] theorem State.setHandle_acc (s : State) (b : Bool) : (s.setHandle b).acc = s.acc := rfl
@[simp] theorem State.setHandle_aLdo (s : State) (b : Bool) : (s.setHandle b).aLdo = s.aLdo := rfl
@[simp] theorem State.setHandle_aGain (s : State) (b : Bool) : (s.setHandle b).aGain = s.aGain := rfl
@[simp] theorem State.setHandle_aRate (s : State) (b : Bool) : (s.setHandle b).aRate = s.aRate := rfl
@[simp] theorem State.setHandle_aMode (s : State) (b : Bool) : (s.setHandle b).aMode = s.aMode := rfl
@[simp] theorem State.setHandle_aPwr (s : State) (b : Bool) : (s.setHandle b).aPwr = s.aPwr := rfl
@[simp] theorem State.setHandle_hvalid (s : State) (b : Bool) : (s.setHandle b).hvalid = b := rfl
@[simp] theorem State.setHandle_rst (s : State) (b : Bool) : (s.setHandle b).rst = s.rst := rfl
@[simp] theorem State.setHandle_cmdIn (s : State) (b : Bool) : (s.setHandle b).cmdIn = s.cmdIn := rfl
@[simp] theorem State.setHandle_busIn (s : State) (b : Bool) : (s.setHandle b).busIn = s.busIn := rfl
@[simp] theorem State.setHandle_dlyIn (s : State) (b : Bool) : (s.setHandle b).dlyIn = s.dlyIn := rfl
@[simp] theorem State.setHandle_trace (s : State) (b : Bool) : (s.setHandle b).trace = s.trace := rfl
@[simp] theorem State.setHandle_freeCtr (s : State) (b : Bool) : (s.setHandle b).freeCtr = s.freeCtr := rfl

/-! `State.setPhase` -/
@[simp] theorem State.setPhase_phase (s : State) (p : Phase) : (s.setPhase p).phase = p := rfl
@[simp] theorem State.setPhase_seq (s : State) (p : Phase) : (s.setPhase p).seq = s.seq := rfl
@[simp] theorem State.setPhase_t (s : State) (p : Phase) : (s.setPhase p).t = s.t := rfl
@[simp] theorem State.setPhase_acc (s : State) (p : Phase) : (s.setPhase p).acc = s.acc := rfl
@[simp] theorem State.setPhase_aLdo (s : State) (p : Phase) : (s.setPhase p).aLdo = s.aLdo := rfl
@[simp] theorem State.setPhase_aGain (s : State) (p : Phase) : (s.setPhase p).aGain = s.aGain := rfl
@[simp] theorem State.setPhase_aRate (s : State) (p : Phase) : (s.setPhase p).aRate = s.aRate := rfl
@[simp] theorem State.setPhase_aMode (s : State) (p : Phase) : (s.setPhase p).aMode = s.aMode := rfl
@[simp] theorem State.setPhase_aPwr (s : State) (p : Phase) : (s.setPhase p).aPwr = s.aPwr := rfl
@[simp] theorem State.setPhase_hvalid (s : State) (p : Phase) : (s.setPhase p).hvalid = s.hvalid := rfl
@[simp] theorem State.setPhase_rst (s : State) (p : Phase) : (s.setPhase p).rst = s.rst := rfl
@[simp] theorem State.setPhase_cmdIn (s : State) (p : Phase) : (s.setPhase p).cmdIn = s.cmdIn := rfl
@[simp] theorem State.setPhase_busIn (s : State) (p : Phase) : (s.setPhase p).busIn = s.busIn := rfl
@[simp] theorem State.setPhase_dlyIn (s : State) (p : Phase) : (s.setPhase p).dlyIn = s.dlyIn := rfl
@[simp] theorem State.setPhase_trace (s : State) (p : Phase) : (s.setPhase p).trace = s.trace := rfl
@[simp] theorem State.setPhase_freeCtr (s : State) (p : Phase) : (s.setPhase p).freeCtr = s.freeCtr := rfl

/-! `State.atStep` -/
@[simp] theorem State.atStep_phase (s : State) (k : Nat) : (s.atStep k).phase = s.phase := rfl
@[simp] theorem State.atStep_seq (s : State) (k : Nat) : (s.atStep k).seq = ⟨s.seq.op, k⟩ := rfl
@[simp] theorem State.atStep_t (s : State) (k : Nat) : (s.atStep k).t = s.t := rfl
@[simp] theorem State.atStep_acc (s : State) (k : Nat) : (s.atStep k).acc = s.acc := rfl
@[simp] theorem State.atStep_aLdo (s : State) (k : Nat) : (s.atStep k).aLdo = s.aLdo := rfl
@[simp] theorem State.atStep_aGain (s : State) (k : Nat) : (s.atStep k).aGain = s.aGain := rfl
@[simp] theorem State.atStep_aRate (s : State) (k : Nat) : (s.atStep k).aRate = s.aRate := rfl
@[simp] theorem State.atStep_aMode (s : State) (k : Nat) : (s.atStep k).aMode = s.aMode := rfl
@[simp] theorem State.atStep_aPwr (s : State) (k : Nat) : (s.atStep k).aPwr = s.aPwr := rfl
@[simp] theorem State.atStep_hvalid (s : State) (k : Nat) : (s.atStep k).hvalid = s.hvalid := rfl
@[simp] theorem State.atStep_rst (s : State) (k : Nat) : (s.atStep k).rst = s.rst := rfl
@[simp] theorem State.atStep_cmdIn (s : State) (k : Nat) : (s.atStep k).cmdIn = s.cmdIn := rfl
@[simp] theorem State.atStep_busIn (s : State) (k : Nat) : (s.atStep k).busIn = s.busIn := rfl
@[simp] theorem State.atStep_dlyIn (s : State) (k : Nat) : (s.atStep k).dlyIn = s.dlyIn := rfl
@[simp] theorem State.atStep_trace (s : State) (k : Nat) : (s.atStep k).trace = s.trace := rfl
@[simp] theorem State.atStep_freeCtr (s : State) (k : Nat) : (s.atStep k).freeCtr = s.freeCtr := rfl

/-! `State.start` -/
@[simp] theorem State.start_phase (s : State) (op : Op) : (s.start op).phase = .run := rfl
@[simp] theorem State.start_seq (s : State) (op : Op) : (s.start op).seq = ⟨op, 0⟩ := rfl
@[simp] theorem State.start_t (s : State) (op : Op) : (s.start op).t = s.t := rfl
@[simp] theorem State.start_acc (s : State) (op : Op) : (s.start op).acc = s.acc := rfl
@[simp] theorem State.start_aLdo (s : State) (op : Op) : (s.start op).aLdo = s.aLdo := rfl
@[simp] theorem State.start_aGain (s : State) (op : Op) : (s.start op).aGain = s.aGain := rfl
@[simp] theorem State.start_aRate (s : State) (op : Op) : (s.start op).aRate = s.aRate := rfl
@[simp] theorem State.start_aMode (s : State) (op : Op) : (s.start op).aMode = s.aMode := rfl
@[simp] theorem State.start_aPwr (s : State) (op : Op) : (s.start op).aPwr = s.aPwr := rfl
@[simp] theorem State.start_hvalid (s : State) (op : Op) : (s.start op).hvalid = s.hvalid := rfl
@[simp] theorem State.start_rst (s : State) (op : Op) : (s.start op).rst = s.rst := rfl
@[simp] theorem State.start_cmdIn (s : State) (op : Op) : (s.start op).cmdIn = s.cmdIn := rfl
@[simp] theorem State.start_busIn (s : State) (op : Op) : (s.start op).busIn = s.busIn := rfl
@[simp] theorem State.start_dlyIn (s : State) (op : Op) : (s.start op).dlyIn = s.dlyIn := rfl
@[simp] theorem State.start_trace (s : State) (op : Op) : (s.start op).trace = s.trace := rfl
@[simp] theorem State.start_freeCtr (s : State) (op : Op) : (s.start op).freeCtr = s.freeCtr := rfl

/-! `State.setBusIn` -/
@[simp] theorem State.setBusIn_phase (s : State) (l : List BusIn) : (s.setBusIn l).phase = s.phase := rfl
@[simp] theorem State.setBusIn_seq (s : State) (l : List BusIn) : (s.setBusIn l).seq = s.seq := rfl
@[simp] theorem State.setBusIn_t (s : State) (l : List BusIn) : (s.setBusIn l).t = s.t := rfl
@[simp] theorem State.setBusIn_acc (s : State) (l : List BusIn) : (s.setBusIn l).acc = s.acc := rfl
@[simp] theorem State.setBusIn_aLdo (s : State) (l : List BusIn) : (s.setBusIn l).aLdo = s.aLdo := rfl
@[simp] theorem State.setBusIn_aGain (s : State) (l : List BusIn) : (s.setBusIn l).aGain = s.aGain := rfl
@[simp] theorem State.setBusIn_aRate (s : State) (l : List BusIn) : (s.setBusIn l).aRate = s.aRate := rfl
@[simp] theorem State.setBusIn_aMode (s : State) (l : List BusIn) : (s.setBusIn l).aMode = s.aMode := rfl
@[simp] theorem State.setBusIn_aPwr (s : State) (l : List BusIn) : (s.setBusIn l).aPwr = s.aPwr := rfl
@[simp] theorem State.setBusIn_hvalid (s : State) (l : List BusIn) : (s.setBusIn l).hvalid = s.hvalid := rfl
@[simp] theorem State.setBusIn_rst (s : State) (l : List BusIn) : (s.setBusIn l).rst = s.rst := rfl
@[simp] theorem State.setBusIn_cmdIn (s : State) (l : List BusIn) : (s.setBusIn l).cmdIn = s.cmdIn := rfl
@[simp] theorem State.setBusIn_busIn (s : State) (l : List BusIn) : (s.setBusIn l).busIn = l := rfl
@[simp] theorem State.setBusIn_dlyIn (s : State) (l : List BusIn) : (s.setBusIn l).dlyIn = s.dlyIn := rfl
@[simp] theorem State.setBusIn_trace (s : State) (l : List BusIn) : (s.setBusIn l).trace = s.trace := rfl
@[simp] theorem State.setBusIn_freeCtr (s : State) (l : List BusIn) : (s.setBusIn l).freeCtr = s.freeCtr := rfl

/-! `State.setDlyIn` -/
@[simp] theorem State.setDlyIn_phase (s : State) (l : List DlyIn) : (s.setDlyIn l).phase = s.phase := rfl
@[simp] theorem State.setDlyIn_seq (s : State) (l : List DlyIn) : (s.setDlyIn l).seq = s.seq := rfl
@[simp] theorem State.setDlyIn_t (s : State) (l : List DlyIn) : (s.setDlyIn l).t = s.t := rfl
@[simp] theorem State.setDlyIn_acc (s : State) (l : List DlyIn) : (s.setDlyIn l).acc = s.acc := rfl
@[simp] theorem State.setDlyIn_aLdo (s : State) (l : List DlyIn) : (s.setDlyIn l).aLdo = s.aLdo := rfl
@[simp] theorem State.setDlyIn_aGain (s : State) (l : List DlyIn) : (s.setDlyIn l).aGain = s.aGain := rfl
@[simp] theorem State.setDlyIn_aRate (s : State) (l : List DlyIn) : (s.setDlyIn l).aRate = s.aRate := rfl
@[simp] theorem State.setDlyIn_aMode (s : State) (l : List DlyIn) : (s.setDlyIn l).aMode = s.aMode := rfl
@[simp] theorem State.setDlyIn_aPwr (s : State) (l : List DlyIn) : (s.setDlyIn l).aPwr = s.aPwr := rfl
@[simp] theorem State.setDlyIn_hvalid (s : State) (l : List DlyIn) : (s.setDlyIn l).hvalid = s.hvalid := rfl
@[simp] theorem State.setDlyIn_rst (s : State) (l : List DlyIn) : (s.setDlyIn l).rst = s.rst := rfl
@[simp] theorem State.setDlyIn_cmdIn (s : State) (l : List DlyIn) : (s.setDlyIn l).cmdIn = s.cmdIn := rfl
@[simp] theorem State.setDlyIn_busIn (s : State) (l : List DlyIn) : (s.setDlyIn l).busIn = s.busIn := rfl
@[simp] theorem State.setDlyIn_dlyIn (s : State) (l : List DlyIn) : (s.setDlyIn l).dlyIn = l := rfl
@[simp] theorem State.setDlyIn_trace (s : State) (l : List DlyIn) : (s.setDlyIn l).trace = s.trace := rfl
@[simp] theorem State.setDlyIn_freeCtr (s : State) (l : List DlyIn) : (s.setDlyIn l).freeCtr = s.freeCtr := rfl

/-! `State.setCmdIn` -/
@[simp] theorem State.setCmdIn_phase (s : State) (l : List CmdWord) : (s.setCmdIn l).phase = s.phase := rfl
@[simp] theorem State.setCmdIn_seq (s : State) (l : List CmdWord) : (s.setCmdIn l).seq = s.seq := rfl
@[simp] theorem State.setCmdIn_t (s : State) (l : List CmdWord) : (s.setCmdIn l).t = s.t := rfl
@[simp] theorem State.setCmdIn_acc (s : State) (l : List CmdWord) : (s.setCmdIn l).acc = s.acc := rfl
@[simp] theorem State.setCmdIn_aLdo (s : State) (l : List CmdWord) : (s.setCmdIn l).aLdo = s.aLdo := rfl
@[simp] theorem State.setCmdIn_aGain (s : State) (l : List CmdWord) : (s.setCmdIn l).aGain = s.aGain := rfl
@[simp] theorem State.setCmdIn_aRate (s : State) (l : List CmdWord) : (s.setCmdIn l).aRate = s.aRate := rfl
@[simp] theorem State.setCmdIn_aMode (s : State) (l : List CmdWord) : (s.setCmdIn l).aMode = s.aMode := rfl
@[simp] theorem State.setCmdIn_aPwr (s : State) (l : List CmdWord) : (s.setCmdIn l).aPwr = s.aPwr := rfl
@[simp] theorem State.setCmdIn_hvalid (s : State) (l : List CmdWord) : (s.setCmdIn l).hvalid = s.hvalid := rfl
@[simp] theorem State.setCmdIn_rst (s : State) (l : List CmdWord) : (s.setCmdIn l).rst = s.rst := rfl
@[simp] theorem State.setCmdIn_cmdIn (s : State) (l : List CmdWord) : (s.setCmdIn l).cmdIn = l := rfl
@[simp] theorem State.setCmdIn_busIn (s : State) (l : List CmdWord) : (s.setCmdIn l).busIn = s.busIn := rfl
@[simp] theorem State.setCmdIn_dlyIn (s : State) (l : List CmdWord) : (s.setCmdIn l).dlyIn = s.dlyIn := rfl
@[simp] theorem State.setCmdIn_trace (s : State) (l : List CmdWord) : (s.setCmdIn l).trace = s.trace := rfl
@[simp] theorem State.setCmdIn_freeCtr (s : State) (l : List CmdWord) : (s.setCmdIn l).freeCtr = s.freeCtr := rfl

/-! `State.latchLdo` -/
@[simp] theorem State.latchLdo_phase (s : State) (c : BitVec 4) : (s.latchLdo c).phase = s.phase := rfl
@[simp] theorem State.latchLdo_seq (s : State) (c : BitVec 4) : (s.latchLdo c).seq = s.seq := rfl
@[simp] theorem State.latchLdo_t (s : State) (c : BitVec 4) : (s.latchLdo c).t = s.t := rfl
@[simp] theorem State.latchLdo_acc (s : State) (c : BitVec 4) : (s.latchLdo c).acc = s.acc := rfl
@[simp] theorem State.latchLdo_aLdo (s : State) (c : BitVec 4) : (s.latchLdo c).aLdo = c := rfl
@[simp] theorem State.latchLdo_aGain (s : State) (c : BitVec 4) : (s.latchLdo c).aGain = s.aGain := rfl
@[simp] theorem State.latchLdo_aRate (s : State) (c : BitVec 4) : (s.latchLdo c).aRate = s.aRate := rfl
@[simp] theorem State.latchLdo_aMode (s : State) (c : BitVec 4) : (s.latchLdo c).aMode = s.aMode := rfl
@[simp] theorem State.latchLdo_aPwr (s : State) (c : BitVec 4) : (s.latchLdo c).aPwr = s.aPwr := rfl
@[simp] theorem State.latchLdo_hvalid (s : State) (c : BitVec 4) : (s.latchLdo c).hvalid = s.hvalid := rfl
@[simp] theorem State.latchLdo_rst (s : State) (c : BitVec 4) : (s.latchLdo c).rst = s.rst := rfl
@[simp] theorem State.latchLdo_cmdIn (s : State) (c : BitVec 4) : (s.latchLdo c).cmdIn = s.cmdIn := rfl
@[simp] theorem State.latchLdo_busIn (s : State) (c : BitVec 4) : (s.latchLdo c).busIn = s.busIn := rfl
@[simp] theorem State.latchLdo_dlyIn (s : State) (c : BitVec 4) : (s.latchLdo c).dlyIn = s.dlyIn := rfl
@[simp] theorem State.latchLdo_trace (s : State) (c : BitVec 4) : (s.latchLdo c).trace = s.trace := rfl
@[simp] theorem State.latchLdo_freeCtr (s : State) (c : BitVec 4) : (s.latchLdo c).freeCtr = s.freeCtr := rfl

/-! `State.latchGain` -/
@[simp] theorem State.latchGain_phase (s : State) (c : BitVec 3) : (s.latchGain c).phase = s.phase := rfl
@[simp] theorem State.latchGain_seq (s : State) (c : BitVec 3) : (s.latchGain c).seq = s.seq := rfl
@[simp] theorem State.latchGain_t (s : State) (c : BitVec 3) : (s.latchGain c).t = s.t := rfl
@[simp] theorem State.latchGain_acc (s : State) (c : BitVec 3) : (s.latchGain c).acc = s.acc := rfl
@[simp] theorem State.latchGain_aLdo (s : State) (c : BitVec 3) : (s.latchGain c).aLdo = s.aLdo := rfl
@[simp] theorem State.latchGain_aGain (s : State) (c : BitVec 3) : (s.latchGain c).aGain = c := rfl
@[simp] theorem State.latchGain_aRate (s : State) (c : BitVec 3) : (s.latchGain c).aRate = s.aRate := rfl
@[simp] theorem State.latchGain_aMode (s : State) (c : BitVec 3) : (s.latchGain c).aMode = s.aMode := rfl
@[simp] theorem State.latchGain_aPwr (s : State) (c : BitVec 3) : (s.latchGain c).aPwr = s.aPwr := rfl
@[simp] theorem State.latchGain_hvalid (s : State) (c : BitVec 3) : (s.latchGain c).hvalid = s.hvalid := rfl
@[simp] theorem State.latchGain_rst (s : State) (c : BitVec 3) : (s.latchGain c).rst = s.rst := rfl
@[simp] theorem State.latchGain_cmdIn (s : State) (c : BitVec 3) : (s.latchGain c).cmdIn = s.cmdIn := rfl
@[simp] theorem State.latchGain_busIn (s : State) (c : BitVec 3) : (s.latchGain c).busIn = s.busIn := rfl
@[simp] theorem State.latchGain_dlyIn (s : State) (c : BitVec 3) : (s.latchGain c).dlyIn = s.dlyIn := rfl
@[simp] theorem State.latchGain_trace (s : State) (c : BitVec 3) : (s.latchGain c).trace = s.trace := rfl
@[simp] theorem State.latchGain_freeCtr (s : State) (c : BitVec 3) : (s.latchGain c).freeCtr = s.freeCtr := rfl

/-! `State.latchRate` -/
@[simp] theorem State.latchRate_phase (s : State) (c : BitVec 3) : (s.latchRate c).phase = s.phase := rfl
@[simp] theorem State.latchRate_seq (s : State) (c : BitVec 3) : (s.latchRate c).seq = s.seq := rfl
@[simp] theorem State.latchRate_t (s : State) (c : BitVec 3) : (s.latchRate c).t = s.t := rfl
@[simp] theorem State.latchRate_acc (s : State) (c : BitVec 3) : (s.latchRate c).acc = s.acc := rfl
@[simp] theorem State.latchRate_aLdo (s : State) (c : BitVec 3) : (s.latchRate c).aLdo = s.aLdo := rfl
@[simp] theorem State.latchRate_aGain (s : State) (c : BitVec 3) : (s.latchRate c).aGain = s.aGain := rfl
@[simp] theorem State.latchRate_aRate (s : State) (c : BitVec 3) : (s.latchRate c).aRate = c := rfl
@[simp] theorem State.latchRate_aMode (s : State) (c : BitVec 3) : (s.latchRate c).aMode = s.aMode := rfl
@[simp] theorem State.latchRate_aPwr (s : State) (c : BitVec 3) : (s.latchRate c).aPwr = s.aPwr := rfl
@[simp] theorem State.latchRate_hvalid (s : State) (c : BitVec 3) : (s.latchRate c).hvalid = s.hvalid := rfl
@[simp] theorem State.latchRate_rst (s : State) (c : BitVec 3) : (s.latchRate c).rst = s.rst := rfl
@[simp] theorem State.latchRate_cmdIn (s : State) (c : BitVec 3) : (s.latchRate c).cmdIn = s.cmdIn := rfl
@[simp] theorem State.latchRate_busIn (s : State) (c : BitVec 3) : (s.latchRate c).busIn = s.busIn := rfl
@[simp] theorem State.latchRate_dlyIn (s : State) (c : BitVec 3) : (s.latchRate c).dlyIn = s.dlyIn := rfl
@[simp] theorem State.latchRate_trace (s : State) (c : BitVec 3) : (s.latchRate c).trace = s.trace := rfl
@[simp] theorem State.latchRate_freeCtr (s : State) (c : BitVec 3) : (s.latchRate c).freeCtr = s.freeCtr := rfl

/-! `State.latchMode` -/
@[simp] theorem State.latchMode_phase (s : State) (c : BitVec 2) : (s.latchMode c).phase = s.phase := rfl
@[simp] theorem State.latchMode_seq (s : State) (c : BitVec 2) : (s.latchMode c).seq = s.seq := rfl
@[simp] theorem State.latchMode_t (s : State) (c : BitVec 2) : (s.latchMode c).t = s.t := rfl
@[simp] theorem State.latchMode_acc (s : State) (c : BitVec 2) : (s.latchMode c).acc = s.acc := rfl
@[simp] theorem State.latchMode_aLdo (s : State) (c : BitVec 2) : (s.latchMode c).aLdo = s.aLdo := rfl
@[simp] theorem State.latchMode_aGain (s : State) (c : BitVec 2) : (s.latchMode c).aGain = s.aGain := rfl
@[simp] theorem State.latchMode_aRate (s : State) (c : BitVec 2) : (s.latchMode c).aRate = s.aRate := rfl
@[simp] theorem State.latchMode_aMode (s : State) (c : BitVec 2) : (s.latchMode c).aMode = c := rfl
@[simp] theorem State.latchMode_aPwr (s : State) (c : BitVec 2) : (s.latchMode c).aPwr = s.aPwr := rfl
@[simp] theorem State.latchMode_hvalid (s : State) (c : BitVec 2) : (s.latchMode c).hvalid = s.hvalid := rfl
@[simp] theorem State.latchMode_rst (s : State) (c : BitVec 2) : (s.latchMode c).rst = s.rst := rfl
@[simp] theorem State.latchMode_cmdIn (s : State) (c : BitVec 2) : (s.latchMode c).cmdIn = s.cmdIn := rfl
@[simp] theorem State.latchMode_busIn (s : State) (c : BitVec 2) : (s.latchMode c).busIn = s.busIn := rfl
@[simp] theorem State.latchMode_dlyIn (s : State) (c : BitVec 2) : (s.latchMode c).dlyIn = s.dlyIn := rfl
@[simp] theorem State.latchMode_trace (s : State) (c : BitVec 2) : (s.latchMode c).trace = s.trace := rfl
@[simp] theorem State.latchMode_freeCtr (s : State) (c : BitVec 2) : (s.latchMode c).freeCtr = s.freeCtr := rfl

/-! `State.latchPwr` -/
@[simp] theorem State.latchPwr_phase (s : State) (b : Bool) : (s.latchPwr b).phase = s.phase := rfl
@[simp] theorem State.latchPwr_seq (s : State) (b : Bool) : (s.latchPwr b).seq = s.seq := rfl
@[simp] theorem State.latchPwr_t (s : State) (b : Bool) : (s.latchPwr b).t = s.t := rfl
@[simp] theorem State.latchPwr_acc (s : State) (b : Bool) : (s.latchPwr b).acc = s.acc := rfl
@[simp] theorem State.latchPwr_aLdo (s : State) (b : Bool) : (s.latchPwr b).aLdo = s.aLdo := rfl
@[simp] theorem State.latchPwr_aGain (s : State) (b : Bool) : (s.latchPwr b).aGain = s.aGain := rfl
@[simp] theorem State.latchPwr_aRate (s : State) (b : Bool) : (s.latchPwr b).aRate = s.aRate := rfl
@[simp] theorem State.latchPwr_aMode (s : State) (b : Bool) : (s.latchPwr b).aMode = s.aMode := rfl
@[simp] theorem State.latchPwr_aPwr (s : State) (b : Bool) : (s.latchPwr b).aPwr = b := rfl
@[simp] theorem State.latchPwr_hvalid (s : State) (b : Bool) : (s.latchPwr b).hvalid = s.hvalid := rfl
@[simp] theorem State.latchPwr_rst (s : State) (b : Bool) : (s.latchPwr b).rst = s.rst := rfl
@[simp] theorem State.latchPwr_cmdIn (s : State) (b : Bool) : (s.latchPwr b).cmdIn = s.cmdIn := rfl
@[simp] theorem State.latchPwr_busIn (s : State) (b : Bool) : (s.latchPwr b).busIn = s.busIn := rfl
@[simp] theorem State.latchPwr_dlyIn (s : State) (b : Bool) : (s.latchPwr b).dlyIn = s.dlyIn := rfl
@[simp] theorem State.latchPwr_trace (s : State) (b : Bool) : (s.latchPwr b).trace = s.trace := rfl
@[simp] theorem State.latchPwr_freeCtr (s : State) (b : Bool) : (s.latchPwr b).freeCtr = s.freeCtr := rfl

/-! `State.latchNew` -/
@[simp] theorem State.latchNew_phase (s : State) (l : BitVec 4) (g r : BitVec 3) : (s.latchNew l g r).phase = s.phase := rfl
@[simp] theorem State.latchNew_seq (s : State) (l : BitVec 4) (g r : BitVec 3) : (s.latchNew l g r).seq = s.seq := rfl
@[simp] theorem State.latchNew_t (s : State) (l : BitVec 4) (g r : BitVec 3) : (s.latchNew l g r).t = s.t := rfl
@[simp] theorem State.latchNew_acc (s : State) (l : BitVec 4) (g r : BitVec 3) : (s.latchNew l g r).acc = s.acc := rfl
@[simp] theorem State.latchNew_aLdo (s : State) (l : BitVec 4) (g r : BitVec 3) : (s.latchNew l g r).aLdo = l := rfl
@[simp] theorem State.latchNew_aGain (s : State) (l : BitVec 4) (g r : BitVec 3) : (s.latchNew l g r).aGain = g := rfl
@[simp] theorem State.latchNew_aRate (s : State) (l : BitVec 4) (g r : BitVec 3) : (s.latchNew l g r).aRate = r := rfl
@[simp] theorem State.latchNew_aMode (s : State) (l : BitVec 4) (g r : BitVec 3) : (s.latchNew l g r).aMode = s.aMode := rfl
@[simp] theorem State.latchNew_aPwr (s : State) (l : BitVec 4) (g r : BitVec 3) : (s.latchNew l g r).aPwr = s.aPwr := rfl
@[simp] theorem State.latchNew_hvalid (s : State) (l : BitVec 4) (g r : BitVec 3) : (s.latchNew l g r).hvalid = s.hvalid := rfl
@[simp] theorem State.latchNew_rst (s : State) (l : BitVec 4) (g r : BitVec 3) : (s.latchNew l g r).rst = s.rst := rfl
@[simp] theorem State.latchNew_cmdIn (s : State) (l : BitVec 4) (g r : BitVec 3) : (s.latchNew l g r).cmdIn = s.cmdIn := rfl
@[simp] theorem State.latchNew_busIn (s : State) (l : BitVec 4) (g r : BitVec 3) : (s.latchNew l g r).busIn = s.busIn := rfl
@[simp] theorem State.latchNew_dlyIn (s : State) (l : BitVec 4) (g r : BitVec 3) : (s.latchNew l g r).dlyIn = s.dlyIn := rfl
@[simp] theorem State.latchNew_trace (s : State) (l : BitVec 4) (g r : BitVec 3) : (s.latchNew l g r).trace = s.trace := rfl
@[simp] theorem State.latchNew_freeCtr (s : State) (l : BitVec 4) (g r : BitVec 3) : (s.latchNew l g r).freeCtr = s.freeCtr := rfl

/-! `deliver` -/
@[simp] theorem deliver_phase (st : Status) (d : Data) (s : State) : (deliver st d s).phase = s.phase := rfl
@[simp] theorem deliver_seq (st : Status) (d : Data) (s : State) : (deliver st d s).seq = s.seq := rfl
@[simp] theorem deliver_t (st : Status) (d : Data) (s : State) : (deliver st d s).t = s.t := rfl
@[simp] theorem deliver_acc (st : Status) (d : Data) (s : State) : (deliver st d s).acc = s.acc := rfl
@[simp] theorem deliver_aLdo (st : Status) (d : Data) (s : State) : (deliver st d s).aLdo = s.aLdo := rfl
@[simp] theorem deliver_aGain (st : Status) (d : Data) (s : State) : (deliver st d s).aGain = s.aGain := rfl
@[simp] theorem deliver_aRate (st : Status) (d : Data) (s : State) : (deliver st d s).aRate = s.aRate := rfl
@[simp] theorem deliver_aMode (st : Status) (d : Data) (s : State) : (deliver st d s).aMode = s.aMode := rfl
@[simp] theorem deliver_aPwr (st : Status) (d : Data) (s : State) : (deliver st d s).aPwr = s.aPwr := rfl
@[simp] theorem deliver_hvalid (st : Status) (d : Data) (s : State) : (deliver st d s).hvalid = s.hvalid := rfl
@[simp] theorem deliver_rst (st : Status) (d : Data) (s : State) : (deliver st d s).rst = s.rst := rfl
@[simp] theorem deliver_cmdIn (st : Status) (d : Data) (s : State) : (deliver st d s).cmdIn = s.cmdIn := rfl
@[simp] theorem deliver_busIn (st : Status) (d : Data) (s : State) : (deliver st d s).busIn = s.busIn := rfl
@[simp] theorem deliver_dlyIn (st : Status) (d : Data) (s : State) : (deliver st d s).dlyIn = s.dlyIn := rfl
@[simp] theorem deliver_trace (st : Status) (d : Data) (s : State) : (deliver st d s).trace = .rsp st d :: s.trace := rfl
@[simp] theorem deliver_freeCtr (st : Status) (d : Data) (s : State) : (deliver st d s).freeCtr = s.freeCtr := rfl

/-! `refuse` -/
@[simp] theorem refuse_phase (s : State) : (refuse s).phase = s.phase := rfl
@[simp] theorem refuse_seq (s : State) : (refuse s).seq = s.seq := rfl
@[simp] theorem refuse_t (s : State) : (refuse s).t = s.t := rfl
@[simp] theorem refuse_acc (s : State) : (refuse s).acc = s.acc := rfl
@[simp] theorem refuse_aLdo (s : State) : (refuse s).aLdo = s.aLdo := rfl
@[simp] theorem refuse_aGain (s : State) : (refuse s).aGain = s.aGain := rfl
@[simp] theorem refuse_aRate (s : State) : (refuse s).aRate = s.aRate := rfl
@[simp] theorem refuse_aMode (s : State) : (refuse s).aMode = s.aMode := rfl
@[simp] theorem refuse_aPwr (s : State) : (refuse s).aPwr = s.aPwr := rfl
@[simp] theorem refuse_hvalid (s : State) : (refuse s).hvalid = s.hvalid := rfl
@[simp] theorem refuse_rst (s : State) : (refuse s).rst = s.rst := rfl
@[simp] theorem refuse_cmdIn (s : State) : (refuse s).cmdIn = s.cmdIn := rfl
@[simp] theorem refuse_busIn (s : State) : (refuse s).busIn = s.busIn := rfl
@[simp] theorem refuse_dlyIn (s : State) : (refuse s).dlyIn = s.dlyIn := rfl
@[simp] theorem refuse_trace (s : State) : (refuse s).trace = .rsp .refused 0 :: s.trace := rfl
@[simp] theorem refuse_freeCtr (s : State) : (refuse s).freeCtr = s.freeCtr := rfl

/-! `returnOk` -/
@[simp] theorem returnOk_phase (v : Data) (s : State) : (returnOk v s).phase = .idle := rfl
@[simp] theorem returnOk_seq (v : Data) (s : State) : (returnOk v s).seq = s.seq := rfl
@[simp] theorem returnOk_t (v : Data) (s : State) : (returnOk v s).t = s.t := rfl
@[simp] theorem returnOk_acc (v : Data) (s : State) : (returnOk v s).acc = s.acc := rfl
@[simp] theorem returnOk_aLdo (v : Data) (s : State) : (returnOk v s).aLdo = s.aLdo := rfl
@[simp] theorem returnOk_aGain (v : Data) (s : State) : (returnOk v s).aGain = s.aGain := rfl
@[simp] theorem returnOk_aRate (v : Data) (s : State) : (returnOk v s).aRate = s.aRate := rfl
@[simp] theorem returnOk_aMode (v : Data) (s : State) : (returnOk v s).aMode = s.aMode := rfl
@[simp] theorem returnOk_aPwr (v : Data) (s : State) : (returnOk v s).aPwr = s.aPwr := rfl
@[simp] theorem returnOk_hvalid (v : Data) (s : State) : (returnOk v s).hvalid = s.hvalid := rfl
@[simp] theorem returnOk_rst (v : Data) (s : State) : (returnOk v s).rst = s.rst := rfl
@[simp] theorem returnOk_cmdIn (v : Data) (s : State) : (returnOk v s).cmdIn = s.cmdIn := rfl
@[simp] theorem returnOk_busIn (v : Data) (s : State) : (returnOk v s).busIn = s.busIn := rfl
@[simp] theorem returnOk_dlyIn (v : Data) (s : State) : (returnOk v s).dlyIn = s.dlyIn := rfl
@[simp] theorem returnOk_trace (v : Data) (s : State) : (returnOk v s).trace = .rsp .ok v :: s.trace := rfl
@[simp] theorem returnOk_freeCtr (v : Data) (s : State) : (returnOk v s).freeCtr = s.freeCtr := rfl

/-! `raise` -/
@[simp] theorem raise_phase (e : Err) (s : State) : (raise e s).phase = .idle := rfl
@[simp] theorem raise_seq (e : Err) (s : State) : (raise e s).seq = s.seq := rfl
@[simp] theorem raise_t (e : Err) (s : State) : (raise e s).t = s.t := rfl
@[simp] theorem raise_acc (e : Err) (s : State) : (raise e s).acc = s.acc := rfl
@[simp] theorem raise_aLdo (e : Err) (s : State) : (raise e s).aLdo = s.aLdo := rfl
@[simp] theorem raise_aGain (e : Err) (s : State) : (raise e s).aGain = s.aGain := rfl
@[simp] theorem raise_aRate (e : Err) (s : State) : (raise e s).aRate = s.aRate := rfl
@[simp] theorem raise_aMode (e : Err) (s : State) : (raise e s).aMode = s.aMode := rfl
@[simp] theorem raise_aPwr (e : Err) (s : State) : (raise e s).aPwr = s.aPwr := rfl
@[simp] theorem raise_hvalid (e : Err) (s : State) : (raise e s).hvalid = s.hvalid := rfl
@[simp] theorem raise_rst (e : Err) (s : State) : (raise e s).rst = s.rst := rfl
@[simp] theorem raise_cmdIn (e : Err) (s : State) : (raise e s).cmdIn = s.cmdIn := rfl
@[simp] theorem raise_busIn (e : Err) (s : State) : (raise e s).busIn = s.busIn := rfl
@[simp] theorem raise_dlyIn (e : Err) (s : State) : (raise e s).dlyIn = s.dlyIn := rfl
@[simp] theorem raise_trace (e : Err) (s : State) : (raise e s).trace = .rsp (errStatus e) (errData e) :: s.trace := rfl
@[simp] theorem raise_freeCtr (e : Err) (s : State) : (raise e s).freeCtr = s.freeCtr := rfl

/-! `takeCmd` -/
@[simp] theorem takeCmd_phase (s : State) : (takeCmd s).phase = s.phase := rfl
@[simp] theorem takeCmd_seq (s : State) : (takeCmd s).seq = s.seq := rfl
@[simp] theorem takeCmd_t (s : State) : (takeCmd s).t = s.t := rfl
@[simp] theorem takeCmd_acc (s : State) : (takeCmd s).acc = s.acc := rfl
@[simp] theorem takeCmd_aLdo (s : State) : (takeCmd s).aLdo = s.aLdo := rfl
@[simp] theorem takeCmd_aGain (s : State) : (takeCmd s).aGain = s.aGain := rfl
@[simp] theorem takeCmd_aRate (s : State) : (takeCmd s).aRate = s.aRate := rfl
@[simp] theorem takeCmd_aMode (s : State) : (takeCmd s).aMode = s.aMode := rfl
@[simp] theorem takeCmd_aPwr (s : State) : (takeCmd s).aPwr = s.aPwr := rfl
@[simp] theorem takeCmd_hvalid (s : State) : (takeCmd s).hvalid = s.hvalid := rfl
@[simp] theorem takeCmd_rst (s : State) : (takeCmd s).rst = s.rst := rfl
@[simp] theorem takeCmd_cmdIn (s : State) : (takeCmd s).cmdIn = s.cmdIn.tail := rfl
@[simp] theorem takeCmd_busIn (s : State) : (takeCmd s).busIn = s.busIn := rfl
@[simp] theorem takeCmd_dlyIn (s : State) : (takeCmd s).dlyIn = s.dlyIn := rfl
@[simp] theorem takeCmd_trace (s : State) : (takeCmd s).trace = s.trace := rfl
@[simp] theorem takeCmd_freeCtr (s : State) : (takeCmd s).freeCtr = s.freeCtr := rfl

/-! `State.latchNone` and `blockReset` -/
@[simp] theorem State.latchNone_eq (s : State) : s.latchNone = s := rfl
@[simp] theorem blockReset_phase (out : Option Action) (s : State) : (blockReset out s).phase = .idle := rfl
@[simp] theorem blockReset_seq (out : Option Action) (s : State) : (blockReset out s).seq = s.seq := rfl
@[simp] theorem blockReset_hvalid (out : Option Action) (s : State) : (blockReset out s).hvalid = false := rfl
@[simp] theorem blockReset_rst (out : Option Action) (s : State) : (blockReset out s).rst = false := rfl
@[simp] theorem blockReset_cmdIn (out : Option Action) (s : State) : (blockReset out s).cmdIn = s.cmdIn := rfl
@[simp] theorem blockReset_trace (out : Option Action) (s : State) : (blockReset out s).trace = s.trace := rfl
@[simp] theorem blockReset_freeCtr (out : Option Action) (s : State) : (blockReset out s).freeCtr = s.freeCtr + 1 := rfl

end Sys2Proof.Machine
end

