-- ==== Sys2Proof/Laws/Ops.lean ====
section
/-! SUPPORT. One lemma per shared operation that says once everything it can do. Later proofs cite these and do not unfold the
operation. -/

namespace Sys2Proof.Machine

/-- Taking a bus answer always gives a next state: the same one, one answer fewer, or the answer consumed. -/
theorem awaitBus_cases {f : BusAnswer → State → State} {s t : State} (h : awaitBus f s = .next t) :
    (s.busIn = [] ∧ t = s) ∨
    (∃ x rest, s.busIn = .late x :: rest ∧ t = s.setBusIn rest) ∨
    (∃ x rest, s.busIn = .answer x :: rest ∧ t = f x (s.setBusIn rest)) := by
  unfold awaitBus at h
  split at h <;> rename_i hb <;> cases h
  · exact .inl ⟨hb, rfl⟩
  · exact .inr (.inl ⟨_, _, hb, rfl⟩)
  · exact .inr (.inr ⟨_, _, hb, rfl⟩)

theorem awaitBus_next (f : BusAnswer → State → State) (s : State) : ∃ t, awaitBus f s = .next t := by
  unfold awaitBus
  split <;> exact ⟨_, rfl⟩

theorem awaitBus_nil {f : BusAnswer → State → State} {s : State} (h : s.busIn = []) : awaitBus f s = .next s := by
  simp [awaitBus, h]

theorem awaitBus_late {f : BusAnswer → State → State} {s : State} {x rest} (h : s.busIn = .late x :: rest) :
    awaitBus f s = .next (s.setBusIn rest) := by
  simp [awaitBus, h]

theorem awaitBus_answer {f : BusAnswer → State → State} {s : State} {x rest} (h : s.busIn = .answer x :: rest) :
    awaitBus f s = .next (f x (s.setBusIn rest)) := by
  simp [awaitBus, h]

/-- A single read answered with success. -/
theorem memRead1_ok {a k} {s : State} {x rest} (h : s.busIn = .answer x :: rest) (hx : x.ok = true) :
    memRead1 a k s = .next (commit (k (((s.setBusIn rest).push (.rd a x.rb0)).load x.rb0))) := by
  rw [memRead1, awaitBus_answer h, if_pos hx]

/-- A single read answered with an error. -/
theorem memRead1_error {a k} {s : State} {x rest} (h : s.busIn = .answer x :: rest) (hx : x.ok = false) :
    memRead1 a k s = .next (raise (.transport x.errk) ((s.setBusIn rest).push (.rdErr a x.errk))) := by
  rw [memRead1, awaitBus_answer h, if_neg (by simp [hx])]

/-- A single write answered with success. -/
theorem memWrite1_ok {a v k} {s : State} {x rest} (h : s.busIn = .answer x :: rest) (hx : x.ok = true) :
    memWrite1 a v k s = .next (commit (k ((s.setBusIn rest).push (.wr a v)))) := by
  rw [memWrite1, awaitBus_answer h, if_pos hx]

/-- A single write answered with an error. -/
theorem memWrite1_error {a v k} {s : State} {x rest} (h : s.busIn = .answer x :: rest) (hx : x.ok = false) :
    memWrite1 a v k s = .next (raise (.transport x.errk) ((s.setBusIn rest).push (.wrErr a v x.errk))) := by
  rw [memWrite1, awaitBus_answer h, if_neg (by simp [hx])]

/-- A burst answered with success. -/
theorem memRead3_ok {k} {s : State} {x rest} (h : s.busIn = .answer x :: rest) (hx : x.ok = true) :
    memRead3 k s = .next (commit (k (((s.setBusIn rest).push (.rd3 Params.adcoB2 x.rb0 x.rb1 x.rb2)).setAcc
      (Codec.assemble24 x.rb0 x.rb1 x.rb2)))) := by
  rw [memRead3, awaitBus_answer h, if_pos hx]

/-- A burst answered with an error. -/
theorem memRead3_error {k} {s : State} {x rest} (h : s.busIn = .answer x :: rest) (hx : x.ok = false) :
    memRead3 k s = .next (raise (.transport x.errk) ((s.setBusIn rest).push (.rd3Err Params.adcoB2 x.errk))) := by
  rw [memRead3, awaitBus_answer h, if_neg (by simp [hx])]

/-- A delay always gives a next state: the same one, a late "done" discarded, or the delay over. -/
theorem delayFor_cases {ms : BitVec 10} {k : State → Next} {s t : State} (h : delayFor ms k s = .next t) :
    (s.dlyIn = [] ∧ t = s) ∨
    (∃ rest, s.dlyIn = .late :: rest ∧ t = s.setDlyIn rest) ∨
    (∃ rest, s.dlyIn = .done :: rest ∧ t = commit (k ((s.setDlyIn rest).push (.dly ms)))) := by
  unfold delayFor at h
  split at h <;> rename_i hb <;> cases h
  · exact .inl ⟨hb, rfl⟩
  · exact .inr (.inl ⟨_, hb, rfl⟩)
  · exact .inr (.inr ⟨_, hb, rfl⟩)

theorem delayFor_next (ms : BitVec 10) (k : State → Next) (s : State) : ∃ t, delayFor ms k s = .next t := by
  unfold delayFor
  split <;> exact ⟨_, rfl⟩

theorem delayFor_done {ms : BitVec 10} {k : State → Next} {s : State} {rest} (h : s.dlyIn = .done :: rest) :
    delayFor ms k s = .next (commit (k ((s.setDlyIn rest).push (.dly ms)))) := by
  simp [delayFor, h]

@[simp] theorem portWord_rsp (st : Status) (d : Data) : portWord (.rsp st d) = some (statusCode st, d) := rfl

@[simp] theorem portWords_rsp (st : Status) (d : Data) (l : List TraceItem) :
    portWords (.rsp st d :: l) = (statusCode st, d) :: portWords l := rfl

/-- An item that is no response leaves the response port as it was. -/
theorem portWords_action {i : TraceItem} (h : portWord i = none) (l : List TraceItem) :
    portWords (i :: l) = portWords l := by
  simp [portWords, h]

/-- A row always gives a next state. -/
theorem perform_next (r : Row) (s : State) : ∃ t, perform r s = .next t := by
  unfold perform
  split
  · exact awaitBus_next _ s
  · exact awaitBus_next _ s
  · exact awaitBus_next _ s
  · exact delayFor_next _ _ s

/-- A command in IDLE is accepted or refused. -/
theorem operate_idle {i accept table} {s : State} (h : s.phase = .idle) :
    operate i accept table s = .next (accept s) := by
  simp [operate, h]

/-- The command in progress carries out its outstanding row. -/
theorem operate_running {i accept table} {s : State} (h : s.phase = .run) (hi : running s = i) :
    operate i accept table s = performRow (table s s.seq.step) s := by
  simp [operate, h, hi]

/-- Another command waits. -/
theorem operate_waiting {i accept table} {s : State} (h : s.phase = .run) (hi : running s ≠ i) :
    operate i accept table s = .next s := by
  simp [operate, h, hi]

/-- Acceptance of a command other than NEW, in one equation per case. -/
theorem acceptCmd_ok {i : Instr} {op latch} {s : State} (hi : i.wf = true) (hh : s.hvalid = true) :
    acceptCmd i op latch s = (latch s).start op := by
  simp [acceptCmd, hi, hh]

theorem acceptCmd_noHandle {i : Instr} {op latch} {s : State} (hh : s.hvalid = false) :
    acceptCmd i op latch s = refuse s := by
  simp [acceptCmd, hh]

theorem acceptCmd_illegal {i : Instr} {op latch} {s : State} (hi : i.wf = false) :
    acceptCmd i op latch s = refuse s := by
  simp [acceptCmd, hi]

theorem acceptNew_ok {i : Instr} {latch} {s : State} (hi : i.wf = true) :
    acceptNew i latch s = ((latch s).setHandle false).start .new := by
  simp [acceptNew, hi]

/-- What a transition is: block reset, or what is fetched is run. -/
theorem transition_rst {s : State} (h : s.rst = true) : transition s = .next (blockReset (outstanding s) s) := by
  simp [transition, h]

theorem transition_fetch {s : State} (h : s.rst = false) : transition s = runFetched (fetch s) s := by
  simp [transition, h]

end Sys2Proof.Machine
end

