-- ==== Sys2Proof/Laws/PerInstr.lean ====
section
/-! SUPPORT. The statement families made per instruction. -/

namespace Sys2Proof.Laws.EncodesItsRow

/-- The pattern of an instruction's row in the opcode table, match and mask (30_encoding R93, R107, R110), and the word. -/
def Pattern : Instr → Prop
  | .new ldo gain rate => ∃ w, encode (.new ldo gain rate) = .cmd w ∧ w &&& 0xFC00 = 0x1000
  | .reset => encode .reset = .cmd 0x2000
  | .enable pwr => ∃ w, encode (.enable pwr) = .cmd w ∧ w &&& 0xFFFE = 0x3000
  | .available => encode .available = .cmd 0x4000
  | .read => encode .read = .cmd 0x5000
  | .setLdo ldo => ∃ w, encode (.setLdo ldo) = .cmd w ∧ w &&& 0xFFF0 = 0x6000
  | .getLdo => encode .getLdo = .cmd 0x7000
  | .setGain gain => ∃ w, encode (.setGain gain) = .cmd w ∧ w &&& 0xFFF8 = 0x8000
  | .getGain => encode .getGain = .cmd 0x9000
  | .setRate rate => ∃ w, encode (.setRate rate) = .cmd w ∧ w &&& 0xFFF8 = 0xA000
  | .getRate => encode .getRate = .cmd 0xB000
  | .calibrate mode => ∃ w, encode (.calibrate mode) = .cmd w ∧ w &&& 0xFFFC = 0xC000
  | .newDefault => encode .newDefault = .cmd 0x11F4
  | .busWrite addr data => ∃ q, encode (.busWrite addr data) = .req q ∧ q &&& 0xFFC0003 = 0x2A80000
  | .busRead1 addr => ∃ q, encode (.busRead1 addr) = .req q ∧ q &&& 0xFFC03FF = 0xAA40001
  | .busRead3 => encode .busRead3 = .req 0xAA44803

/-- The word of an instruction has the fixed bits of its row. -/
def Statement (i : Instr) : Prop := Pattern i

theorem new (ldo : BitVec 4) (gain rate : BitVec 3) : Statement (.new ldo gain rate) :=
  ⟨_, rfl, by revert ldo gain rate; decide⟩
theorem reset : Statement .reset := by rfl
theorem enable (pwr : Bool) : Statement (.enable pwr) := ⟨_, rfl, by revert pwr; decide⟩
theorem available : Statement .available := by rfl
theorem read : Statement .read := by rfl
theorem setLdo (ldo : BitVec 4) : Statement (.setLdo ldo) := ⟨_, rfl, by revert ldo; decide⟩
theorem getLdo : Statement .getLdo := by rfl
theorem setGain (gain : BitVec 3) : Statement (.setGain gain) := ⟨_, rfl, by revert gain; decide⟩
theorem getGain : Statement .getGain := by rfl
theorem setRate (rate : BitVec 3) : Statement (.setRate rate) := ⟨_, rfl, by revert rate; decide⟩
theorem getRate : Statement .getRate := by rfl
theorem calibrate (mode : BitVec 2) : Statement (.calibrate mode) := ⟨_, rfl, by revert mode; decide⟩
theorem newDefault : Statement .newDefault := by rfl
theorem busWrite (addr data : Byte) : Statement (.busWrite addr data) := by
  refine ⟨_, rfl, ?_⟩
  apply BitVec.eq_of_getLsbD_eq
  intro i hi
  simp only [packReq, writeReq, Params.devAddr, BitVec.getLsbD_and, BitVec.getLsbD_append]
  interval_cases i <;> simp
theorem busRead1 (addr : Byte) : Statement (.busRead1 addr) := ⟨_, rfl, by revert addr; decide⟩
theorem busRead3 : Statement .busRead3 := by rfl

end Sys2Proof.Laws.EncodesItsRow
end

