-- ==== Sys2Proof/Tests/Slice0.lean ====
section
/-! SUPPORT. The model's own tests. Expected values are those of 95_test_vectors or are read from the rule named; the words of the
decode tests are written out bit by bit from 30_encoding R91 to R93 and R108. The second half shows, for each statement with
hypotheses, states and operands that meet them. -/

namespace Sys2Proof.Tests

open Sys2Proof Sys2Proof.Machine

/-! ### Small states -/

/-- IDLE with a handle. -/
def ready : State := { State.reset with hvalid := true }

/-- IDLE with a handle, a word offered. -/
def offered (w : CmdWord) : State := { ready with cmdIn := [w] }

/-- IDLE without a handle, a word offered. -/
def offeredNoHandle (w : CmdWord) : State := { State.reset with cmdIn := [w] }

/-- `SEQ = (op, k)` in RUN, with the operands L3V3, G128, SPS80, OFFSET, 1 in the latches. -/
def sitting (op : Op) (k : Nat) : State :=
  { State.reset with
    phase := .run, seq := { op := op, step := k }, hvalid := op != .new
    aLdo := 4, aGain := 7, aRate := 3, aMode := 2, aPwr := true }

/-- The answer of a done transaction. -/
def okAnswer (b : Byte) : BusAnswer := { ok := true, errk := 0, rb0 := b, rb1 := 0, rb2 := 0 }

/-- The answer of a burst. -/
def okBurst (b0 b1 b2 : Byte) : BusAnswer := { ok := true, errk := 0, rb0 := b0, rb1 := b1, rb2 := b2 }

/-- A transport error. -/
def badAnswer (e : BitVec 2) : BusAnswer := { ok := false, errk := e, rb0 := 0, rb1 := 0, rb2 := 0 }

/-- A bus answer waits. -/
def withBus (s : State) (x : BusAnswer) : State := { s with busIn := [.answer x] }

/-- A "done" waits at the delay port. -/
def withDone (s : State) : State := { s with dlyIn := [.done] }

/-- The next state, if there is one. -/
def nextOf : Result → Option State
  | .next t => some t
  | .fault _ => none
  | .refused _ => none

/-! ### Well-formedness refuses each ill-formed operand (30_encoding R99, R101 to R103, R110) -/

theorem test_wf_ldo_9 : (Instr.setLdo 9).wf = false := by decide
theorem test_wf_ldo_8 : (Instr.setLdo 8).wf = true := by decide
theorem test_wf_rate_5 : (Instr.setRate 5).wf = false := by decide
theorem test_wf_mode_1 : (Instr.calibrate 1).wf = false := by decide
theorem test_wf_new_ldo : (Instr.new 15 0 0).wf = false := by decide
theorem test_wf_new_rate : (Instr.new 0 0 4).wf = false := by decide
theorem test_wf_write_revision : (Instr.busWrite 0x1F 0).wf = false := by decide
theorem test_wf_read_result_byte : (Instr.busRead1 0x12).wf = false := by decide
theorem test_wf_gain_all : ∀ g : BitVec 3, gainLegal g = true := by decide

/-! ### Decoding of words written out from the formats -/

theorem test_decode_new : decodeCmd 0b0001_00_111_111_1000 = .ok (.new 8 7 7) := by decide
theorem test_decode_reset : decodeCmd 0b0010_0000_0000_0000 = .ok .reset := by decide
theorem test_decode_enable : decodeCmd 0b0011_0000_0000_000_1 = .ok (.enable true) := by decide
theorem test_decode_available : decodeCmd 0b0100_0000_0000_0000 = .ok .available := by decide
theorem test_decode_read : decodeCmd 0b0101_0000_0000_0000 = .ok .read := by decide
theorem test_decode_setLdo : decodeCmd 0b0110_0000_0000_1000 = .ok (.setLdo 8) := by decide
theorem test_decode_getLdo : decodeCmd 0b0111_0000_0000_0000 = .ok .getLdo := by decide
theorem test_decode_setGain : decodeCmd 0b1000_0000_0000_0_110 = .ok (.setGain 6) := by decide
theorem test_decode_getGain : decodeCmd 0b1001_0000_0000_0000 = .ok .getGain := by decide
theorem test_decode_setRate : decodeCmd 0b1010_0000_0000_0_111 = .ok (.setRate 7) := by decide
theorem test_decode_getRate : decodeCmd 0b1011_0000_0000_0000 = .ok .getRate := by decide
theorem test_decode_calibrate : decodeCmd 0b1100_0000_0000_00_11 = .ok (.calibrate 3) := by decide
theorem test_decode_newDefault : decodeCmd 0b0001_00_011_111_0100 = .ok .newDefault := by decide
theorem test_decode_busWrite :
    decodeReq 0b0_0101010_10_00000001_00100111_00 = .ok (.busWrite 0x01 0x27) := by decide
theorem test_decode_busRead1 :
    decodeReq 0b1_0101010_01_00011111_00000000_01 = .ok (.busRead1 0x1F) := by decide
theorem test_decode_busRead3 :
    decodeReq 0b1_0101010_01_00010010_00000000_11 = .ok .busRead3 := by decide

/-- The illegal words of 95_test_vectors section 2.1. -/
theorem test_decode_illegal :
    ([0x0000, 0xFFFF, 0x1274, 0x1009, 0x15F4, 0x19F4, 0x2001, 0x3002, 0x5800, 0x6009, 0x600F, 0x6010, 0x8008, 0xA004,
      0xA005, 0xA006, 0xA008, 0xC001, 0xC004, 0xD000, 0xE000, 0xF000] : List CmdWord).filterMap
        (fun w => (decodeCmd w).toOption) = [] := by decide +kernel

/-- Request words that are none of R110: another device, a register never written, a read of two bytes, a write with a read. -/
theorem test_decode_request_illegal :
    ([0x2B8049C, 0x2A87C00, 0xAA47C02, 0x2A8049D] : List ReqWord).filterMap (fun q => (decodeReq q).toOption) = [] := by
  decide +kernel

/-- The packed words of 95_test_vectors section 2.3. -/
theorem test_pack_requests :
    packReq (writeReq 0x01 0x27) = 0x2A8049C ∧ packReq (readReq 0x1F) = 0xAA47C01 ∧ packReq burstReq = 0xAA44803 := by
  decide

theorem test_table_words :
    decodeTableWord 16 0x11F4 = some .newDefault ∧ decodeTableWord 32 0xAA44803 = some .busRead3 ∧
    decodeTableWord 16 0xD000 = none := by
  decide

/-! ### The codec (95_test_vectors section 2.2) -/

theorem test_codec_extract :
    Codec.extract 0xA5 (Params.fieldPos .vldo) = 4 ∧ Codec.extract 0x3A (Params.fieldPos .calErr) = 1 ∧
    Codec.extract 0xAF (Params.fieldPos .revId) = 0xF := by
  decide

theorem test_codec_insert :
    Codec.insert 0x5A (Params.fieldPos .crs) 7 = 0x7A ∧ Codec.insert 0xFF (Params.fieldPos .vldo) 0 = 0xC7 ∧
    Codec.insert 0xFF (Params.fieldPos .ldoMode) 0 = 0xBF := by
  decide

theorem test_codec_sign :
    Codec.sext24 (Codec.assemble24 0xED 0xCB 0xAA) = 0xFFEDCBAA ∧ Codec.sext24 (Codec.assemble24 0x00 0x80 0x00) = 0x8000 := by
  decide

/-! ### One step of each instruction -/

/-- 95 section 2.4: the byte 0xFF becomes 0xFE at row 3 of NEW (`RR` 0, `PUD` 1). -/
theorem test_new_row3 :
    nextOf (step (withBus (sitting .new 3) (okAnswer 0xFF))) =
    some (afterRead (sitting .new 3) 0x00 (okAnswer 0xFF) [] 0xFE 4) := by
  decide +kernel

/-- P5 command 2: the revision nibble 0xE is reported, and there is no handle. -/
theorem test_new_revision :
    nextOf (step (withBus (sitting .new 13) (okAnswer 0x1E))) =
    some { sitting .new 13 with
        phase := .idle, t := 0x1E, trace := [.rsp .revisionMismatch 14, .rd 0x1F 0x1E], hvalid := false } := by
  decide +kernel

theorem test_new_external_skips : nextOf (step (withBus { sitting .new 15 with aLdo := 8, t := 0x7F } (okAnswer 0))) =
    some { sitting .new 18 with aLdo := 8, t := 0x7F, trace := [.wr 0x00 0x7F] } := by
  decide +kernel

/-- S6: a RESET that finds `PUR` 0 ends NotReady. -/
theorem test_reset_notReady : nextOf (step (withBus (sitting .reset 6) (okAnswer 0x02))) =
    some { sitting .reset 6 with phase := .idle, t := 0x02, trace := [.rsp .notReady 0, .rd 0x00 0x02] } := by
  decide +kernel

theorem test_reset_row0_nack : nextOf (step (withBus (sitting .reset 0) (badAnswer 1))) =
    some { sitting .reset 0 with phase := .idle, trace := [.rsp .transport 1, .rdErr 0x00 1] } := by
  decide +kernel

/-- 95 section 2.4: power down writes 0x98 for 0x9E read. -/
theorem test_enable_down : nextOf (step (withBus { sitting .enable 0 with aPwr := false } (okAnswer 0x9E))) =
    some { sitting .enable 1 with aPwr := false, t := 0x98, trace := [.rd 0x00 0x9E] } := by
  decide +kernel

theorem test_enable_wait : nextOf (step (withDone (sitting .enable 2))) =
    some { sitting .enable 3 with trace := [.dly 600] } := by
  decide +kernel

theorem test_available_only_bit5 : nextOf (step (withBus (sitting .available 0) (okAnswer 0xDF))) =
    some { sitting .available 0 with phase := .idle, t := 0xDF, trace := [.rsp .ok 0, .rd 0x00 0xDF] } := by
  decide +kernel

theorem test_available_set : nextOf (step (withBus (sitting .available 0) (okAnswer 0x20))) =
    some { sitting .available 0 with phase := .idle, t := 0x20, trace := [.rsp .ok 1, .rd 0x00 0x20] } := by
  decide +kernel

/-- P3 command 3. -/
theorem test_read_negative : nextOf (step (withBus (sitting .read 0) (okBurst 0xFF 0xFE 0x0C))) =
    some { sitting .read 0 with
      phase := .idle, acc := 0xFFFFFE0C, trace := [.rsp .ok 0xFFFFFE0C, .rd3 0x12 0xFF 0xFE 0x0C] } := by
  decide +kernel

theorem test_read_arbitration : nextOf (step (withBus (sitting .read 0) (badAnswer 0))) =
    some { sitting .read 0 with phase := .idle, trace := [.rsp .transport 0, .rd3Err 0x12 0] } := by
  decide +kernel

/-- 95 section 2.6: `SET_LDO L3V3` with answer 0x07 writes 0x27 in its second write. -/
theorem test_setLdo_selector : nextOf (step (withBus (sitting .setLdo 2) (okAnswer 0x07))) =
    some { sitting .setLdo 3 with t := 0x27, trace := [.rd 0x01 0x07] } := by
  decide +kernel

/-- 95 section 2.6: `SET_LDO EXT` ends after its first write. -/
theorem test_setLdo_external : nextOf (step (withBus { sitting .setLdo 1 with aLdo := 8, t := 0x1E } (okAnswer 0))) =
    some { sitting .setLdo 1 with aLdo := 8, t := 0x1E, phase := .idle, trace := [.rsp .ok 0, .wr 0x00 0x1E] } := by
  decide +kernel

theorem test_getLdo_external : nextOf (step (withBus (sitting .getLdo 0) (okAnswer 0x1E))) =
    some { sitting .getLdo 0 with phase := .idle, t := 0x1E, trace := [.rsp .ok 8, .rd 0x00 0x1E] } := by
  decide +kernel

theorem test_getLdo_internal : nextOf (step (withBus (sitting .getLdo 1) (okAnswer 0x27))) =
    some { sitting .getLdo 1 with phase := .idle, t := 0x27, trace := [.rsp .ok 4, .rd 0x01 0x27] } := by
  decide +kernel

theorem test_setGain_edit : nextOf (step (withBus (sitting .setGain 0) (okAnswer 0x20))) =
    some { sitting .setGain 1 with t := 0x27, trace := [.rd 0x01 0x20] } := by
  decide +kernel

theorem test_getGain : nextOf (step (withBus (sitting .getGain 0) (okAnswer 0xF8))) =
    some { sitting .getGain 0 with phase := .idle, t := 0xF8, trace := [.rsp .ok 0, .rd 0x01 0xF8] } := by
  decide +kernel

/-- 95 section 2.6: the calibration bits are written back as read. -/
theorem test_setRate_edit : nextOf (step (withBus { sitting .setRate 0 with aRate := 2 } (okAnswer 0x0C))) =
    some { sitting .setRate 1 with aRate := 2, t := 0x2C, trace := [.rd 0x02 0x0C] } := by
  decide +kernel

theorem test_getRate_reserved : nextOf (step (withBus (sitting .getRate 0) (okAnswer 0x60))) =
    some { sitting .getRate 0 with phase := .idle, t := 0x60, trace := [.rsp .invalidData 0, .rd 0x02 0x60] } := by
  decide +kernel

theorem test_getRate_320 : nextOf (step (withBus (sitting .getRate 0) (okAnswer 0xFF))) =
    some { sitting .getRate 0 with phase := .idle, t := 0xFF, trace := [.rsp .ok 7, .rd 0x02 0xFF] } := by
  decide +kernel

/-- P2 step 1. -/
theorem test_calibrate_start : nextOf (step (withBus (sitting .calibrate 0) (okAnswer 0x30))) =
    some { sitting .calibrate 1 with t := 0x36, trace := [.rd 0x02 0x30] } := by
  decide +kernel

/-- P2, variant: `CALS` 0 and `CAL_ERR` 1. -/
theorem test_calibrate_error : nextOf (step (withBus (sitting .calibrate 2) (okAnswer 0x3A))) =
    some { sitting .calibrate 2 with phase := .idle, t := 0x3A, trace := [.rsp .calibrationError 0, .rd 0x02 0x3A] } := by
  decide +kernel

/-- P1: at acceptance `HVALID <- 0`, `SEQ <- (NEW, 0)`, and the latches are 4, 7, 3. -/
theorem test_newDefault_accept : nextOf (step (offered 0x11F4)) =
    some { State.reset with phase := .run, seq := ⟨.new, 0⟩, aLdo := 4, aGain := 7, aRate := 3 } := by
  decide +kernel

/-- 30_encoding R113: REFUSED is status 7. -/
theorem test_port_refused :
    (nextOf (step (offeredNoHandle 0x5000))).map (fun t => portWords t.trace) = some [(7, 0)] := by
  decide +kernel

/-- P5 command 1. -/
theorem test_refused_without_handle :
    nextOf (step (offeredNoHandle 0x5000)) = some { State.reset with trace := [.rsp .refused 0] } := by
  decide +kernel

/-- 95 section 2.1: an illegal NEW clears nothing. -/
theorem test_illegal_new : nextOf (step (offered 0x1274)) =
    some { ready with trace := [.rsp .refused 0] } := by
  decide +kernel

theorem test_busWrite : nextOf (exec (.busWrite 0x01 0x27) (withBus { sitting .setGain 1 with t := 0x27 } (badAnswer 2))) =
    some { sitting .setGain 1 with t := 0x27, phase := .idle, trace := [.rsp .transport 2, .wrErr 0x01 0x27 2] } := by
  decide +kernel

theorem test_busRead1 : nextOf (exec (.busRead1 0x1F) (withBus (sitting .new 13) (okAnswer 0xAF))) =
    some { sitting .new 14 with t := 0xAF, trace := [.rd 0x1F 0xAF] } := by
  decide +kernel

theorem test_busRead3 : nextOf (exec .busRead3 (withBus (sitting .read 0) (okBurst 0x80 0x00 0x00))) =
    some { sitting .read 0 with
      phase := .idle, acc := 0xFF800000, trace := [.rsp .ok 0xFF800000, .rd3 0x12 0x80 0x00 0x00] } := by
  decide +kernel

/-- A fetched request word is run by the next step. -/
theorem test_withFetchWord :
    (nextOf (step (State.reset.withFetchWord 32 0x2A8049C))).map State.trace = some [.rsp .ok 0, .wr 0x01 0x27] := by
  decide +kernel

/-! ### Witnesses: states and operands that meet the hypotheses of the statements -/

theorem next_of {r : Result} {t : State} (h : nextOf r = some t) : r = .next t := by
  cases r <;> simp_all [nextOf]

/-- The hypotheses on a state to which `w` is offered. -/
def Offers (s : State) (w : CmdWord) : Prop := s.phase = .idle ∧ s.rst = false ∧ s.hvalid = true ∧ s.cmdIn = [w]

/-- The hypotheses on a state with a bus row outstanding and its answer waiting. -/
def BusRow (s : State) (op : Op) (k : Nat) : Prop :=
  AtRow s op k ∧ ∃ x rest, s.busIn = .answer x :: rest ∧ x.ok = true

/-- The hypotheses on a state with a delay row outstanding and its answer waiting. -/
def DelayRow (s : State) (op : Op) (k : Nat) : Prop := AtRow s op k ∧ ∃ rest, s.dlyIn = .done :: rest

theorem offers (w : CmdWord) : Offers (offered w) w := ⟨rfl, rfl, rfl, rfl⟩
theorem busRow (op : Op) (k : Nat) (b : Byte) : BusRow (withBus (sitting op k) (okAnswer b)) op k :=
  ⟨⟨rfl, rfl⟩, okAnswer b, [], rfl, rfl⟩
theorem delayRow' (op : Op) (k : Nat) : DelayRow (withDone (sitting op k)) op k := ⟨⟨rfl, rfl⟩, [], rfl⟩

/-- AcceptedWordsLatchTheirFields: each clause, its operand at the ends of its range. -/
theorem witness_accepted_words :
    Offers (offered 0x2000) 0x2000 ∧ Offers (offered 0x4000) 0x4000 ∧ Offers (offered 0x5000) 0x5000 ∧
    Offers (offered 0x7000) 0x7000 ∧ Offers (offered 0x9000) 0x9000 ∧ Offers (offered 0xB000) 0xB000 ∧
    Offers (offered 0x3001) 0x3001 ∧ Offers (offered 0x6008) 0x6008 ∧ Offers (offered 0x8007) 0x8007 ∧
    Offers (offered 0xA007) 0xA007 ∧ Offers (offered 0xC003) 0xC003 ∧ Offers (offered 0x13F8) 0x13F8 ∧
    Offers (offered 0x1000) 0x1000 ∧ Offers (offered 0x11F4) 0x11F4 :=
  ⟨offers _, offers _, offers _, offers _, offers _, offers _, offers _, offers _, offers _, offers _, offers _, offers _,
    offers _, offers _⟩

theorem witness_accepted_patterns :
    (0x3001 : CmdWord) &&& 0xFFFE = 0x3000 ∧
    (0x6008 : CmdWord) &&& 0xFFF0 = 0x6000 ∧ ((0x6008 : CmdWord).extractLsb' 0 4).toNat ≤ 8 ∧
    (0x8007 : CmdWord) &&& 0xFFF8 = 0x8000 ∧
    (0xA007 : CmdWord) &&& 0xFFF8 = 0xA000 ∧ ((0xA007 : CmdWord).extractLsb' 0 3).toNat ∈ [0, 1, 2, 3, 7] ∧
    (0xC003 : CmdWord) &&& 0xFFFC = 0xC000 ∧ ((0xC003 : CmdWord).extractLsb' 0 2).toNat ∈ [0, 2, 3] ∧
    (0x13F8 : CmdWord) &&& 0xFC00 = 0x1000 ∧ ((0x13F8 : CmdWord).extractLsb' 0 4).toNat ≤ 8 ∧
    ((0x13F8 : CmdWord).extractLsb' 7 3).toNat ∈ [0, 1, 2, 3, 7] := by
  decide

/-- DecodeOfEncode, EncodeOfDecode, AssemblerNamesRoundTrip. -/
theorem witness_round_trip :
    (Instr.new 8 7 7).wf = true ∧ (Instr.new 8 7 7).op? ≠ none ∧ (Instr.busWrite 0x1C 0xFF).wf = true ∧
    (decode (.cmd 0x13F8)).toOption = some (.new 8 7 7) ∧ (decode (.req 0x2A8049C)).toOption = some (.busWrite 0x01 0x27) := by
  decide

/-- IllegalWordsAreRefused: each kind of illegal word, at the edge of its range, and a state that is offered one. -/
theorem witness_illegal_words :
    IllegalWord 0x0000 ∧ IllegalWord 0xD000 ∧ IllegalWord 0xFFFF ∧ IllegalWord 0x2001 ∧ IllegalWord 0x3002 ∧
    IllegalWord 0x6009 ∧ IllegalWord 0x6010 ∧ IllegalWord 0x8008 ∧ IllegalWord 0xA004 ∧ IllegalWord 0xA008 ∧
    IllegalWord 0xC001 ∧ IllegalWord 0xC004 ∧ IllegalWord 0x1009 ∧ IllegalWord 0x1274 ∧ IllegalWord 0x15F4 ∧
    Offers (offered 0x1274) 0x1274 := by
  unfold IllegalWord
  refine ⟨?_, ?_, ?_, ?_, ?_, ?_, ?_, ?_, ?_, ?_, ?_, ?_, ?_, ?_, ?_, offers _⟩ <;> decide

/-- IssuedRequestsAreTheThree, StepRunsTheOutstandingRequest: a request of each kind is outstanding. -/
theorem witness_requests :
    outstanding (sitting .new 27) = some (.write 0x1C 0) ∧ requestWord (.write 0x1C 0) = some 0x2A87000 ∧
    outstanding (sitting .new 13) = some (.read 0x1F) ∧ requestWord (.read 0x1F) = some 0xAA47C01 ∧
    outstanding (sitting .read 0) = some .burst ∧ requestWord .burst = some 0xAA44803 := by
  decide

/-- FieldAccessLaws: two disjoint fields of one register. -/
theorem witness_disjoint_fields :
    (Params.fieldPos .gains).reg = (Params.fieldPos .vldo).reg ∧
    Codec.mask (Params.fieldPos .gains) &&& Codec.mask (Params.fieldPos .vldo) = 0 := by
  decide

/-- ReadResultIsTheSignedNumber: both sides of the sign. -/
theorem witness_24_bits :
    (0x007FFFFF : Data).toNat < 2 ^ 23 ∧ (0x00800000 : Data).toNat < 2 ^ 24 ∧ ¬ (0x00800000 : Data).toNat < 2 ^ 23 := by
  decide

/-- StepRunsTheOfferedCommand, NoHandleMeansRefused. -/
theorem witness_offered :
    (offered 0x6008).phase = .idle ∧ (offered 0x6008).rst = false ∧ (offered 0x6008).cmdIn = [0x6008] ∧
    (decodeCmd 0x6008).toOption = some (.setLdo 8) := by
  decide

theorem witness_no_handle :
    (offeredNoHandle 0x5000).phase = .idle ∧ (offeredNoHandle 0x5000).rst = false ∧
    (offeredNoHandle 0x5000).cmdIn = [0x5000] ∧ (offeredNoHandle 0x5000).hvalid = false ∧
    (decodeCmd 0x5000).toOption = some .read ∧ Instr.read.op? = some .read ∧
    (offeredNoHandle 0x11F4).cmdIn = [0x11F4] ∧ (decodeCmd 0x11F4).toOption = some .newDefault ∧
    Instr.newDefault.op? = some .new := by
  decide

/-- StepRunsTheOutstandingRequest, StepInRunIsTheCommandInProgress, BlockWaitsForItsEnvironment: nothing has been answered. -/
theorem witness_waiting :
    (sitting .calibrate 3).phase = .run ∧ (sitting .calibrate 3).rst = false ∧
    outstanding (sitting .calibrate 3) = some (.delay 10) ∧ (sitting .calibrate 3).dlyIn = [] ∧
    outstanding (sitting .calibrate 2) = some (.read 0x02) ∧ requestWord (.read 0x02) = some 0xAA40801 ∧
    (sitting .calibrate 2).busIn = [] ∧ ready.phase = .idle ∧ ready.rst = false ∧ ready.cmdIn = [] := by
  decide

/-- BusyBlockTakesNoCommand, RunIgnoresTheCommandPort. -/
theorem witness_busy :
    (sitting .calibrate 2).phase = .run ∧ Instr.read.op? ≠ none ∧
    running (sitting .calibrate 2) ≠ Instr.read.expand ∧ (sitting .calibrate 2).rst = false ∧
    nextOf (step (sitting .calibrate 2)) = some (sitting .calibrate 2) := by
  decide

/-- CommandsAreAccepted, NewIsAcceptedAndClearsTheHandle: operands at the ends of their ranges. -/
theorem witness_acceptance :
    ready.phase = .idle ∧ ready.hvalid = true ∧ (8 : BitVec 4).toNat ≤ 8 ∧ (7 : BitVec 3).toNat ∈ [0, 1, 2, 3, 7] ∧
    (3 : BitVec 2).toNat ∈ [0, 2, 3] ∧ (0 : BitVec 2).toNat ∈ [0, 2, 3] := by
  decide

/-- NewDefaultIsNewWithDefaults: the last row, reached with the default operands. -/
theorem witness_new_default :
    BusRow (withBus (sitting .new 27) (okAnswer 0)) .new 27 ∧
    running (withBus (sitting .new 27) (okAnswer 0)) = .new 4 7 3 :=
  ⟨busRow _ _ _, rfl⟩

/-- ResetRows. -/
theorem witness_reset_rows :
    (∀ k ∈ [0, 1, 3, 4, 6], BusRow (withBus (sitting .reset k) (okAnswer 0x0A)) .reset k) ∧
    ∀ k ∈ [2, 5], DelayRow (withDone (sitting .reset k)) .reset k :=
  ⟨fun k _ => busRow _ k _, fun k _ => delayRow' _ k⟩

/-- EnableRows, power up. -/
theorem witness_enable_rows :
    (∀ k ∈ [0, 1, 3, 4, 5], BusRow (withBus (sitting .enable k) (okAnswer 0x0A)) .enable k ∧
      (withBus (sitting .enable k) (okAnswer 0x0A)).aPwr = true) ∧
    DelayRow (withDone (sitting .enable 2)) .enable 2 ∧ (withDone (sitting .enable 2)).aPwr = true :=
  ⟨fun k _ => ⟨busRow _ k _, rfl⟩, delayRow' _ _, rfl⟩

/-- EnableRows, power down. -/
theorem witness_enable_down_rows :
    ∀ k ∈ [0, 1], BusRow (withBus { sitting .enable k with aPwr := false } (okAnswer 0x9E)) .enable k ∧
      (withBus { sitting .enable k with aPwr := false } (okAnswer 0x9E)).aPwr = false :=
  fun _ _ => ⟨⟨⟨rfl, rfl⟩, okAnswer 0x9E, [], rfl, rfl⟩, rfl⟩

/-- NewRows; the operand of `sitting` is not External, as rows 16 and 17 ask. -/
theorem witness_new_rows :
    (∀ k ∈ [0, 1, 3, 4, 6, 7, 8, 10, 11, 12, 13, 14, 15, 16, 17, 18, 19, 20, 21, 22, 23, 24, 25, 26, 27],
      BusRow (withBus (sitting .new k) (okAnswer 0x1E)) .new k) ∧
    (∀ k ∈ [2, 5, 9], DelayRow (withDone (sitting .new k)) .new k) ∧ (sitting .new 16).aLdo ≠ 8 :=
  ⟨fun k _ => busRow _ k _, fun k _ => delayRow' _ k, by decide⟩

/-- The operations of one row, and the rows of the setters, GET_LDO and CALIBRATE. -/
theorem witness_other_rows :
    BusRow (withBus (sitting .available 0) (okAnswer 0x20)) .available 0 ∧
    BusRow (withBus (sitting .read 0) (okBurst 0x80 0 1)) .read 0 ∧
    (∀ k ∈ [0, 1, 2, 3], BusRow (withBus (sitting .setLdo k) (okAnswer 7)) .setLdo k) ∧ (sitting .setLdo 1).aLdo ≠ 8 ∧
    BusRow (withBus { sitting .setLdo 1 with aLdo := 8 } (okAnswer 7)) .setLdo 1 ∧
    (∀ k ∈ [0, 1], BusRow (withBus (sitting .getLdo k) (okAnswer 0x9E)) .getLdo k) ∧
    (∀ k ∈ [0, 1], BusRow (withBus (sitting .setGain k) (okAnswer 0xFF)) .setGain k) ∧
    BusRow (withBus (sitting .getGain 0) (okAnswer 0x27)) .getGain 0 ∧
    (∀ k ∈ [0, 1], BusRow (withBus (sitting .setRate k) (okAnswer 0xFF)) .setRate k) ∧
    BusRow (withBus (sitting .getRate 0) (okAnswer 0x40)) .getRate 0 ∧
    (∀ k ∈ [0, 1, 2], BusRow (withBus (sitting .calibrate k) (okAnswer 0x36)) .calibrate k) ∧
    DelayRow (withDone (sitting .calibrate 3)) .calibrate 3 :=
  ⟨busRow _ _ _, ⟨⟨rfl, rfl⟩, okBurst 0x80 0 1, [], rfl, rfl⟩, fun k _ => busRow _ k _, by decide,
    ⟨⟨rfl, rfl⟩, okAnswer 7, [], rfl, rfl⟩, fun k _ => busRow _ k _, fun k _ => busRow _ k _, busRow _ _ _,
    fun k _ => busRow _ k _, busRow _ _ _, fun k _ => busRow _ k _, delayRow' _ _⟩

/-- BusWriteCompletes (also at NEW's last row), BusReadOneCompletes, BusReadThreeCompletes, OperationsReachOnlyTheirRegisters. -/
theorem witness_bus_requests :
    outstanding (withBus (sitting .setGain 1) (okAnswer 0)) = some (.write 0x01 0) ∧
    outstanding (withBus (sitting .new 27) (okAnswer 0)) = some (.write 0x1C 0) ∧
    outstanding (withBus (sitting .new 13) (okAnswer 0xAF)) = some (.read 0x1F) ∧
    outstanding (withBus (sitting .read 0) (okBurst 1 2 3)) = some .burst ∧
    (withBus (sitting .read 0) (okBurst 1 2 3)).busIn = [.answer (okBurst 1 2 3)] ∧ (okBurst 1 2 3).ok = true ∧
    (withBus (sitting .setGain 1) (okAnswer 0)).busIn = [.answer (okAnswer 0)] ∧ (okAnswer 0).ok = true := by
  decide

/-- TransportErrorEndsTheOperation: an error on a write, on a read and on the burst; a delay that is answered. -/
theorem witness_transport :
    outstanding (withBus (sitting .new 1) (badAnswer 3)) = some (.write 0x00 0) ∧
    requestWord (.write 0x00 0) = some 0x2A80000 ∧
    outstanding (withBus (sitting .calibrate 2) (badAnswer 0)) = some (.read 0x02) ∧
    outstanding (withBus (sitting .read 0) (badAnswer 2)) = some .burst ∧
    (withBus (sitting .new 1) (badAnswer 3)).busIn = [.answer (badAnswer 3)] ∧ (badAnswer 3).ok = false ∧
    (withBus (sitting .new 1) (badAnswer 3)).rst = false ∧
    outstanding (withDone (sitting .new 9)) = some (.delay 600) ∧ (withDone (sitting .new 9)).dlyIn = [.done] ∧
    (withDone (sitting .new 9)).rst = false := by
  decide

/-- OperationsEndAsTabled: a step that ends an operation with an error, and one that ends NEW normally. -/
theorem witness_ends :
    (∃ t, step (withBus (sitting .calibrate 2) (okAnswer 0x3A)) = .next t ∧ t.phase = .idle) ∧
    (∃ t, step (withBus (sitting .new 27) (okAnswer 0)) = .next t ∧ t.phase = .idle ∧ t.hvalid = true) ∧
    mayEnd .calibrate true .calibrationError = true :=
  ⟨⟨_, next_of (t := { sitting .calibrate 2 with
      phase := .idle, t := 0x3A, trace := [.rsp .calibrationError 0, .rd 0x02 0x3A] }) (by decide +kernel), rfl⟩,
    ⟨_, next_of (t := { sitting .new 27 with
      phase := .idle, hvalid := true, trace := [.rsp .ok 0, .wr 0x1C 0] }) (by decide +kernel), rfl, rfl⟩, rfl⟩

/-- OneResponsePerConsumedWord, BlockResetStopsEverything, AbandonedAnswersAreDiscarded: block reset of a busy block, and a late
answer. -/
theorem witness_block_reset :
    ({ withBus (sitting .new 13) (okAnswer 0x0F) with rst := true } : State).rst = true ∧
    outstanding { withBus (sitting .new 13) (okAnswer 0x0F) with rst := true } = some (.read 0x1F) ∧
    requestWord (.read 0x1F) = some 0xAA47C01 ∧
    outstanding { withDone (sitting .new 9) with rst := true } = some (.delay 600) ∧
    ({ withDone (sitting .new 9) with rst := true } : State).dlyIn = [.done] ∧
    ({ sitting .new 13 with busIn := [.late (okAnswer 0)] } : State).busIn = [.late (okAnswer 0)] ∧
    outstanding { sitting .new 13 with busIn := [.late (okAnswer 0)] } = some (.read 0x1F) ∧
    ({ sitting .new 9 with dlyIn := [.late] } : State).dlyIn = [.late] ∧
    outstanding { sitting .new 9 with dlyIn := [.late] } = some (.delay 600) := by
  decide

theorem witness_block_reset_steps : ∃ t, step { sitting .new 13 with rst := true } = .next t ∧ t.phase = .idle :=
  ⟨_, rfl, rfl⟩

/-- CalibratePollsUntilClear: the answers of P2. -/
theorem witness_polls :
    AtRow { sitting .calibrate 0 with
      busIn := [.answer (okAnswer 0x30), .answer (okAnswer 0), .answer (okAnswer 0x36), .answer (okAnswer 0x36),
        .answer (okAnswer 0x32)],
      dlyIn := [.done, .done] } .calibrate 0 ∧
    (∀ x ∈ [okAnswer 0x36, okAnswer 0x36], x.ok = true ∧ Codec.extract x.rb0 (Params.fieldPos .cals) = 1) ∧
    Codec.extract (okAnswer 0x32).rb0 (Params.fieldPos .cals) = 0 ∧ (okAnswer 0x32).ok = true ∧
    [BusIn.answer (okAnswer 0x30), .answer (okAnswer 0), .answer (okAnswer 0x36), .answer (okAnswer 0x36),
        .answer (okAnswer 0x32)] =
      .answer (okAnswer 0x30) :: .answer (okAnswer 0) ::
        ([okAnswer 0x36, okAnswer 0x36].map .answer ++ .answer (okAnswer 0x32) :: []) ∧
    [DlyIn.done, .done] = List.replicate [okAnswer 0x36, okAnswer 0x36].length .done ++ [] :=
  ⟨⟨rfl, rfl⟩, by simp [okAnswer]; decide, by decide, rfl, rfl, rfl⟩

/-- The trace of `k` busy polls of P2. -/
def pollTrace : Nat → List TraceItem
  | 0 => []
  | k + 1 => .dly 10 :: .rd 0x02 0x36 :: pollTrace k

/-- The four states of one busy poll: waiting, answered, waiting for the delay, delay over. -/
def pollStage (l : List TraceItem) : Nat → State
  | 0 => { sitting .calibrate 2 with t := 0x36, trace := l }
  | 1 => { sitting .calibrate 2 with t := 0x36, trace := l, busIn := [.answer (okAnswer 0x36)] }
  | 2 => { sitting .calibrate 3 with t := 0x36, trace := .rd 0x02 0x36 :: l }
  | _ => { sitting .calibrate 3 with t := 0x36, trace := .rd 0x02 0x36 :: l, dlyIn := [.done] }

/-- A CALIBRATE whose chip answers 0x36 for ever. -/
def endless (n : Nat) : State := pollStage (pollTrace (n / 4)) (n % 4)

theorem endless_stage (k i : Nat) (h : i < 4) : endless (4 * k + i) = pollStage (pollTrace k) i := by
  rw [endless, show (4 * k + i) / 4 = k by omega, show (4 * k + i) % 4 = i by omega]

theorem endless_stages (n : Nat) : ∃ k, endless n = pollStage (pollTrace k) 0 ∧ n = 4 * k ∨
    endless n = pollStage (pollTrace k) 1 ∧ n = 4 * k + 1 ∨ endless n = pollStage (pollTrace k) 2 ∧ n = 4 * k + 2 ∨
    endless n = pollStage (pollTrace k) 3 ∧ n = 4 * k + 3 := by
  refine ⟨n / 4, ?_⟩
  have : n % 4 = 0 ∨ n % 4 = 1 ∨ n % 4 = 2 ∨ n % 4 = 3 := by omega
  rcases this with h | h | h | h
  · exact .inl ⟨by rw [endless, h], by omega⟩
  · exact .inr (.inl ⟨by rw [endless, h], by omega⟩)
  · exact .inr (.inr (.inl ⟨by rw [endless, h], by omega⟩))
  · exact .inr (.inr (.inr ⟨by rw [endless, h], by omega⟩))

theorem step_poll (l : List TraceItem) : step (pollStage l 1) = .next (pollStage l 2) := by with_unfolding_all rfl
theorem step_pollDelay (l : List TraceItem) :
    step (pollStage l 3) = .next (pollStage (.dly 10 :: .rd 0x02 0x36 :: l) 0) := rfl

/-- CalibrateMayNeverEnd: a run as its first clause asks, with every action answered, and a state as its second asks. -/
theorem witness_endless :
    BusyRun endless ∧ (endless 0).phase = .run ∧ (endless 0).seq.op = .calibrate ∧
    (∀ n, ∃ m, n ≤ m ∧ Answered (endless m) ∧ step (endless m) = .next (endless (m + 1))) ∧
    AtRow (sitting .calibrate 2) .calibrate 2 ∧ (sitting .calibrate 2).rst = false ∧ (sitting .calibrate 2).busIn = [] ∧
    (sitting .calibrate 2).dlyIn = [] := by
  refine ⟨⟨fun n => ?_, fun n => ?_, fun n x rest h => ?_⟩, rfl, rfl, fun n => ⟨4 * n + 1, by omega, ?_, ?_⟩,
    ⟨rfl, rfl⟩, rfl, rfl, rfl⟩
  · obtain ⟨k, h | h | h | h⟩ := endless_stages n <;> obtain ⟨h, rfl⟩ := h <;> rw [h]
    · rw [endless_stage k 1 (by omega)]
      exact .env _ _ (.answerBus (pollStage (pollTrace k) 0) (okAnswer 0x36))
    · rw [show 4 * k + 1 + 1 = 4 * k + 2 by omega, endless_stage k 2 (by omega)]
      exact .block _ _ (step_poll _)
    · rw [show 4 * k + 2 + 1 = 4 * k + 3 by omega, endless_stage k 3 (by omega)]
      exact .env _ _ (.answerDelay (pollStage (pollTrace k) 2))
    · rw [show 4 * k + 3 + 1 = 4 * (k + 1) + 0 by omega, endless_stage (k + 1) 0 (by omega)]
      exact .block _ _ (step_pollDelay _)
  · obtain ⟨k, h | h | h | h⟩ := endless_stages n <;> rw [h.1] <;> rfl
  · obtain ⟨k, g | g | g | g⟩ := endless_stages n <;> rw [g.1] at h <;>
      simp only [pollStage, sitting, State.reset, List.cons.injEq, BusIn.answer.injEq, reduceCtorEq] at h
    obtain ⟨rfl, -⟩ := h
    exact ⟨rfl, fun _ => by decide⟩
  · rw [endless_stage n 1 (by omega)]
    exact .inl ⟨.read 0x02, _, okAnswer 0x36, [], rfl, rfl, rfl⟩
  · rw [endless_stage n 1 (by omega), show 4 * n + 1 + 1 = 4 * n + 2 by omega, endless_stage n 2 (by omega)]
    exact step_poll _

/-- AllButCalibrateEnd: NEW at its first row, with 28 answers and three "done"s waiting. -/
theorem witness_answers_enough :
    (currentRow { sitting .new 0 with
      busIn := (List.replicate 28 (okAnswer 0xFF)).map .answer ++ [],
      dlyIn := List.replicate 3 .done ++ [] }).isSome = true ∧
    (sitting .new 0).phase = .run ∧ (sitting .new 0).rst = false ∧ (sitting .new 0).seq.op ≠ .calibrate ∧
    28 ≤ (List.replicate 28 (okAnswer 0xFF)).length := by
  decide

/-- OperationsFollowTheirPseudocode: `SET_GAIN G128` with the answers of 95 section 2.6. -/
theorem witness_pseudocode :
    (Instr.setGain 7).op? = some .setGain ∧ (Instr.setGain 7).wf = true ∧
    (∃ p, Pseudo.progOf 0 (.setGain 7) = some p ∧
      ((p.eval [okAnswer 0x20, okAnswer 0]).map fun e => (e.items, e.status, e.data, e.rest)) =
        some ([.rd 0x01 0x20, .wr 0x01 0x27], .ok, 0, [])) ∧
    ready.phase = .idle ∧ ready.rst = false ∧ ready.hvalid = true :=
  ⟨rfl, rfl, ⟨_, rfl, by decide +kernel⟩, rfl, rfl, rfl⟩

/-- NewIsTheConcatenationOfItsParts: an end with OK, an end with an error, a row that goes on. -/
theorem witness_parts :
    (sitting .reset 6).rst = false ∧ (sitting .enable 5).aPwr = true ∧
    (∃ t, step { withBus (sitting .reset 6) (okAnswer 0x0A) with phase := .run, seq := ⟨.reset, 6⟩ } = .next t ∧
      t.phase = .idle ∧ t.trace.head? = some (.rsp .ok 0)) ∧
    (∃ t, step { withBus (sitting .enable 5) (okAnswer 0x16) with phase := .run, seq := ⟨.enable, 5⟩ } = .next t ∧
      t.phase = .idle ∧ t.trace.head? = some (.rsp .notReady 0)) ∧
    (∃ t, step { withBus (sitting .setLdo 0) (okAnswer 0x1E) with phase := .run, seq := ⟨.setLdo, 0⟩ } = .next t ∧
      t.phase = .run) :=
  ⟨rfl, rfl,
    ⟨_, next_of (t := { sitting .reset 6 with phase := .idle, t := 0x0A, trace := [.rsp .ok 0, .rd 0x00 0x0A] })
      (by decide +kernel), rfl, rfl⟩,
    ⟨_, next_of (t := { sitting .enable 5 with phase := .idle, t := 0x16, trace := [.rsp .notReady 0, .rd 0x00 0x16] })
      (by decide +kernel), rfl, rfl⟩,
    ⟨_, next_of (t := { sitting .setLdo 1 with t := 0x9E, trace := [.rd 0x00 0x1E] }) (by decide +kernel), rfl⟩⟩

/-- StepKeepsControlOk: a good state in RUN that steps. -/
theorem witness_control :
    ControlOk (withBus (sitting .new 15) (okAnswer 0)) ∧
    ∃ t, step (withBus (sitting .new 15) (okAnswer 0)) = .next t ∧ t.seq = ⟨.new, 16⟩ :=
  ⟨⟨fun _ => by decide, fun _ => by decide +kernel, fun _ => by decide⟩,
    ⟨_, next_of (t := { sitting .new 16 with trace := [.wr 0x00 0] }) (by decide +kernel), rfl⟩⟩

/-- StepKeepsNoBlindWrite: a state with a write outstanding that has the property, and steps. -/
theorem witness_no_blind_write :
    outstanding { withBus (sitting .setGain 1) (okAnswer 0) with t := 0x27, trace := [.rd 0x01 0x20] } =
      some (.write 0x01 0x27) ∧
    NoBlindWrite { withBus (sitting .setGain 1) (okAnswer 0) with t := 0x27, trace := [.rd 0x01 0x20] } ∧
    nextOf (step { withBus (sitting .setGain 1) (okAnswer 0) with t := 0x27, trace := [.rd 0x01 0x20] }) =
      some { sitting .setGain 1 with phase := .idle, t := 0x27, trace := [.rsp .ok 0, .wr 0x01 0x27, .rd 0x01 0x20] } := by
  refine ⟨by decide, fun a v h => ?_, by decide +kernel⟩
  have h' : (Action.write 0x01 0x27) = .write a v := Option.some.inj ((by decide : _ = _).symm.trans h)
  cases h'
  exact ⟨0x20, [], rfl, by decide⟩

/-- ReachableStatesNeverStop: a good state in RUN that the environment moves, and a state in RUN that is reached. -/
theorem witness_env_move :
    ControlOk (sitting .new 16) ∧ EnvMove (sitting .new 16) ((sitting .new 16).answerBus (okAnswer 0)) :=
  ⟨⟨fun _ => by decide, fun _ => by decide +kernel, fun _ => by decide⟩, .answerBus _ _⟩

theorem witness_reachable : ∃ s, Reachable s ∧ s.phase = .run :=
  ⟨_, .move _ _ (.move _ _ .reset (.env _ _ (.offer _ 0x11F4))) (.block _ _ (next_of
    (t := { State.reset with phase := .run, seq := ⟨.new, 0⟩, aLdo := 4, aGain := 7, aRate := 3 }) (by decide +kernel))), rfl⟩

/-- HandleChangesOnlyByNewAndReset: the three changes. -/
theorem witness_handle :
    (∃ t, step { ready with rst := true } = .next t ∧ t.hvalid ≠ ready.hvalid) ∧
    (nextOf (step (offered 0x11F4))).map State.hvalid = some false ∧ (offered 0x11F4).hvalid = true ∧
    (nextOf (step (withBus (sitting .new 27) (okAnswer 0)))).map State.hvalid = some true ∧ (sitting .new 27).hvalid = false :=
  ⟨⟨_, rfl, by decide⟩, by decide +kernel, rfl, by decide +kernel, rfl⟩

/-- AccIsWrittenOnlyByRead. -/
theorem witness_acc :
    (sitting .read 0).rst = false ∧ (sitting .read 0).acc = 0 ∧
    (nextOf (step (withBus (sitting .read 0) (okBurst 0xFF 0xFE 0x0C)))).map State.acc = some 0xFFFFFE0C := by
  decide +kernel

/-- LatchesAreWrittenOnlyAtAcceptance: each latch is changed by the acceptance of a command. -/
theorem witness_latches :
    (nextOf (step (offered 0x6008))).map State.aLdo = some 8 ∧ (nextOf (step (offered 0x8007))).map State.aGain = some 7 ∧
    (nextOf (step (offered 0xA007))).map State.aRate = some 7 ∧ (nextOf (step (offered 0xC003))).map State.aMode = some 3 ∧
    (nextOf (step (offered 0x3001))).map State.aPwr = some true ∧ ready.aLdo = 0 ∧ ready.aGain = 0 ∧ ready.aRate = 0 ∧
    ready.aMode = 0 ∧ ready.aPwr = false := by
  decide +kernel

/-- OperationsReachOnlyTheirRegisters (External), StepKeepsSelectorOk: `AVDDS` is read as 1, and the read of 0x01 goes out. -/
theorem witness_selector :
    ({ sitting .setLdo 1 with aLdo := 8 } : State).seq.op = .setLdo ∧
    outstanding { sitting .setLdo 1 with aLdo := 8 } = some (.write 0x00 0) ∧
    SelectorOk (withBus (sitting .getLdo 0) (okAnswer 0x9E)) ∧
    step (withBus (sitting .getLdo 0) (okAnswer 0x9E)) =
      .next { sitting .getLdo 1 with t := 0x9E, trace := [.rd 0x00 0x9E] } ∧
    outstanding { sitting .getLdo 1 with t := 0x9E, trace := [.rd 0x00 0x9E] } = some (.read 0x01) :=
  ⟨rfl, by decide, fun _ h => absurd h (by decide), next_of (by decide +kernel), by decide⟩

/-- DeadRegistersAreNeverObserved: two states that differ in dead registers, in IDLE and at a first row, and a run. -/
theorem witness_dead :
    SameButDead ready { ready with t := 0xFF, acc := 1, aLdo := 8, seq := ⟨.read, 5⟩ } ∧
    SameButDead (sitting .setGain 0) { sitting .setGain 0 with t := 0xFF, acc := 1, aLdo := 8 } ∧
    steps 0 ready = .next ready := by
  refine ⟨⟨rfl, rfl, rfl, rfl, rfl, rfl, rfl, fun h => ?_⟩, ⟨rfl, rfl, rfl, rfl, rfl, rfl, rfl, fun _ => ⟨rfl, rfl, fun h => ?_⟩⟩, rfl⟩
  · exact absurd h (by decide)
  · exact absurd rfl h

end Sys2Proof.Tests
end

section
/-! What the decoders give for the words that the machine runs: a command word decodes to a host command, and the request word of
a bus action that the block issues decodes to that request. -/

namespace Sys2Proof

theorem unpackReq_packReq (r : BusReq) : unpackReq (packReq r) = r := by
  obtain ⟨kind, dev, wlen, wb0, wb1, rlen⟩ := r
  simp (disch := decide) only [unpackReq, packReq, BitVec.extractLsb'_append_eq_of_le, Nat.reduceSub,
    BitVec.extractLsb'_append_eq_right, BitVec.extractLsb'_eq_self]

theorem decodeReq_write {a : Byte} (ha : a ∈ AddressMap.writeAddrs) (v : Byte) :
    decodeReq (packReq (writeReq a v)) = .ok (.busWrite a v) := by
  simp only [decodeReq, unpackReq_packReq]
  simp [writeReq, ha]

theorem decodeReq_read {a : Byte} (ha : a ∈ AddressMap.readAddrs) :
    decodeReq (packReq (readReq a)) = .ok (.busRead1 a) := by
  simp only [decodeReq, unpackReq_packReq]
  simp [writeReq, readReq, ha]

theorem decodeReq_burst : decodeReq (packReq burstReq) = .ok .busRead3 := by decide

theorem op_of_decodeZ {w : CmdWord} {i j : Instr} {op : Op} (hi : i.op? = some op) (h : decodeZ w i = .ok j) :
    j.op? = some op := by
  unfold decodeZ at h
  split at h <;> cases h
  exact hi

theorem op_of_decodeB {w : CmdWord} {i : Instr} (h : decodeB w = .ok i) : i.op? = some .enable := by
  unfold decodeB at h
  split at h <;> cases h
  rfl

theorem op_of_decodeL {w : CmdWord} {i : Instr} (h : decodeL w = .ok i) : i.op? = some .setLdo := by
  unfold decodeL at h
  split_ifs at h
  cases h
  rfl

theorem op_of_decodeG {w : CmdWord} {i : Instr} (h : decodeG w = .ok i) : i.op? = some .setGain := by
  unfold decodeG at h
  split_ifs at h
  cases h
  rfl

theorem op_of_decodeS {w : CmdWord} {i : Instr} (h : decodeS w = .ok i) : i.op? = some .setRate := by
  unfold decodeS at h
  split_ifs at h
  cases h
  rfl

theorem op_of_decodeC {w : CmdWord} {i : Instr} (h : decodeC w = .ok i) : i.op? = some .calibrate := by
  unfold decodeC at h
  split_ifs at h
  cases h
  rfl

theorem op_canon (i : Instr) : i.canon.op? = i.op? := by
  unfold Instr.canon
  split
  · next h => rw [h]; rfl
  · rfl

theorem op_of_decodeN {w : CmdWord} {i : Instr} (h : decodeN w = .ok i) : i.op? = some .new := by
  simp only [decodeN] at h
  split_ifs at h
  cases h
  exact op_canon _

/-- A command word decodes to a host command, never to a bus request. -/
theorem op_of_decodeCmd {w : CmdWord} {i : Instr} (h : decodeCmd w = .ok i) : ∃ op, i.op? = some op := by
  unfold decodeCmd at h
  split at h
  · exact ⟨_, op_of_decodeN h⟩
  · exact ⟨_, op_of_decodeZ rfl h⟩
  · exact ⟨_, op_of_decodeB h⟩
  · exact ⟨_, op_of_decodeZ rfl h⟩
  · exact ⟨_, op_of_decodeZ rfl h⟩
  · exact ⟨_, op_of_decodeL h⟩
  · exact ⟨_, op_of_decodeZ rfl h⟩
  · exact ⟨_, op_of_decodeG h⟩
  · exact ⟨_, op_of_decodeZ rfl h⟩
  · exact ⟨_, op_of_decodeS h⟩
  · exact ⟨_, op_of_decodeZ rfl h⟩
  · exact ⟨_, op_of_decodeC h⟩
  · cases h

theorem wf_expand {i : Instr} (h : i.wf = true) : i.expand.wf = true := by
  cases i
  case newDefault => decide
  all_goals exact h

end Sys2Proof
end

section
/-! What a row of a step table can be, said once for all twelve tables. A row reads nothing but `T` and the latches of its own
operation (10_state R24, R26), it leads to a row of the same table, and a write or a delay is never the first row. -/

namespace Sys2Proof.Machine

open Sys2Proof.Params Sys2Proof.Codec

/-! ### The latches of an operation -/

/-- Two states agree on the latches that the format of `op` writes (10_state R26). -/
def SameLatches (op : Op) (x y : State) : Prop :=
  match op with
  | .new => x.aLdo = y.aLdo ∧ x.aGain = y.aGain ∧ x.aRate = y.aRate
  | .enable => x.aPwr = y.aPwr
  | .setLdo => x.aLdo = y.aLdo
  | .setGain => x.aGain = y.aGain
  | .setRate => x.aRate = y.aRate
  | .calibrate => x.aMode = y.aMode
  | _ => True

/-- Two states with one command in progress agree on its latches, and the other way round. -/
theorem running_eq_iff {x y : State} (h : x.seq.op = y.seq.op) :
    running x = running y ↔ SameLatches x.seq.op x y := by
  unfold running
  rw [← h]
  cases x.seq.op <;> simp [SameLatches]

theorem SameLatches.refl (op : Op) (s : State) : SameLatches op s s := by
  cases op <;> simp [SameLatches]

theorem op_running (s : State) : (running s).op? = some s.seq.op := by
  unfold running
  cases s.seq.op <;> rfl

@[simp] theorem running_setBusIn (s : State) (l : List BusIn) : running (s.setBusIn l) = running s := rfl
@[simp] theorem running_setDlyIn (s : State) (l : List DlyIn) : running (s.setDlyIn l) = running s := rfl
@[simp] theorem running_push (s : State) (i : TraceItem) : running (s.push i) = running s := rfl
@[simp] theorem running_load (s : State) (v : Byte) : running (s.load v) = running s := rfl
@[simp] theorem running_atStep (s : State) (k : Nat) : running (s.atStep k) = running s := rfl

/-! ### What a read row does with the byte it has read -/

/-- What a read row decides from the byte in `T`: the next row with the edited byte, or an end. -/
inductive Verdict where
  | goto (k : Nat) (b : Byte)
  | done (v : Data)
  | fail (e : Err)

/-- The verdict carried out in a state. -/
def Verdict.on : Verdict → State → Next
  | .goto k b, s => .row k (s.load b)
  | .done v, s => .ret v s
  | .fail e, s => .err e s

/-- Row `k` is a row, not the first, of the table that `s` runs, whatever becomes of the working registers and ports. -/
def RowAhead (s : State) (op : Op) (k : Nat) : Prop :=
  k ≠ 0 ∧ ∀ u : State, u.aLdo = s.aLdo → u.aPwr = s.aPwr → (tableOf op u k).isSome = true

/-- A verdict goes to a row that exists. -/
def Verdict.Ok (s : State) (op : Op) : Verdict → Prop
  | .goto k _ => RowAhead s op k
  | _ => True

/-- The "on answer" column of a read row is a verdict that depends on `T` and on the latches of the operation alone. -/
def ReadOk (s : State) (op : Op) (f : State → Next) : Prop :=
  ∀ x y : State, SameLatches op x y → x.t = y.t → ∃ c : Verdict, c.Ok s op ∧ f x = c.on x ∧ f y = c.on y

/-- A row's edit of `T` depends on `T` and on the latches of the operation alone, and changes nothing else. -/
def EditOk (op : Op) (f : State → State) : Prop :=
  ∀ x y : State, SameLatches op x y → x.t = y.t → ∃ b : Byte, f x = x.load b ∧ f y = y.load b

section EditOk
variable {op : Op}

/-- The byte is kept as read. -/
theorem EditOk.keep : EditOk op id := fun x _ _ ht => ⟨x.t, rfl, by rw [ht]; rfl⟩

/-- A field is set from the operand latches. -/
theorem EditOk.latch (F : FieldName) (v : State → BitVec (fieldPos F).width)
    (hv : ∀ x y, SameLatches op x y → v x = v y) : EditOk op (fun x => x.setField F (v x)) :=
  fun x y hl ht => ⟨insert x.t (fieldPos F) (v x), rfl, by rw [ht, hv x y hl]; rfl⟩

/-- A field is set to a constant. -/
theorem EditOk.const (F : FieldName) (v : BitVec (fieldPos F).width) : EditOk op (fun x => x.setField F v) :=
  .latch F (fun _ => v) fun _ _ _ => rfl

/-- A second field is set to a constant. -/
theorem EditOk.also {f : State → State} (hf : EditOk op f) (F : FieldName) (v : BitVec (fieldPos F).width) :
    EditOk op (fun x => (f x).setField F v) := by
  intro x y hl ht
  obtain ⟨b, hx, hy⟩ := hf x y hl ht
  exact ⟨insert b (fieldPos F) v, congrArg (State.setField · F v) hx, congrArg (State.setField · F v) hy⟩

end EditOk

section ReadOk
variable {s : State} {op : Op}

/-- A row that edits `T` and goes on. -/
theorem ReadOk.edit {k : Nat} {f : State → State} (hf : EditOk op f) (hk : RowAhead s op k) :
    ReadOk s op (fun x => .row k (f x)) := by
  intro x y hl ht
  obtain ⟨b, hx, hy⟩ := hf x y hl ht
  exact ⟨.goto k b, hk, congrArg (Next.row k) hx, congrArg (Next.row k) hy⟩

/-- A row that returns data of the byte read. -/
theorem ReadOk.ret (v : Byte → Data) : ReadOk s op (fun x => .ret (v x.t) x) :=
  fun x _ _ ht => ⟨.done (v x.t), trivial, rfl, by rw [ht]; rfl⟩

/-- A row that raises an error with a payload of the byte read. -/
theorem ReadOk.err (e : Byte → Err) : ReadOk s op (fun x => .err (e x.t) x) :=
  fun x _ _ ht => ⟨.fail (e x.t), trivial, rfl, by rw [ht]; rfl⟩

/-- A row that decides on a flag of the byte read. -/
theorem ReadOk.ite (p : Byte → Bool) {f g : State → Next} (hf : ReadOk s op f) (hg : ReadOk s op g) :
    ReadOk s op (fun x => if p x.t then f x else g x) := by
  intro x y hl ht
  simp only [← ht]
  split
  · exact hf x y hl ht
  · exact hg x y hl ht

/-- The readiness check (60_exceptions R217) before a verdict. -/
theorem ReadOk.ready {f : State → Next} (hf : ReadOk s op f) : ReadOk s op (fun x => requireReady x (f x)) :=
  .ite (isSet · (fieldPos .pur)) hf (.err fun _ => .notReady)

/-- The revision check (60_exceptions R220) before a verdict. -/
theorem ReadOk.revision {f : State → Next} (hf : ReadOk s op f) : ReadOk s op (fun x => requireRevision x (f x)) :=
  .ite revOk hf (.err fun b => .revisionMismatch (extract b (fieldPos .revId)))

end ReadOk

/-! ### The kinds of rows -/

/-- The rows that the step tables are made of, `s` being the state that runs row `k` of `op`. -/
inductive RowOk (s : State) (op : Op) (k : Nat) : Row → Prop
  | read {a : Byte} {f : State → Next} (hf : ReadOk s op f) (ha : a ∈ AddressMap.readAddrs := by decide) :
      RowOk s op k ⟨.read a, f⟩
  | write {a : Byte} {k' : Nat} (h : RowAhead s op k') (ha : a ∈ AddressMap.writeAddrs := by decide)
      (hk : k ≠ 0 := by decide) : RowOk s op k (writeRow s a k')
  | lastWrite {a : Byte} (ha : a ∈ AddressMap.writeAddrs := by decide) (hk : k ≠ 0 := by decide) :
      RowOk s op k (lastWriteRow s a)
  /-- The last row of NEW alone sets `HVALID`. -/
  | handle (hop : op = .new) (hk : k = 27) :
      RowOk s op k ⟨.write pwrCtrl s.t, fun x => .ret 0 (x.setHandle true)⟩
  /-- The row of READ alone writes `ACC`. -/
  | burst (hop : op = .read) (hk : k = 0) :
      RowOk s op k ⟨.burst, fun x => .ret (sext24 x.acc) (x.setAcc (sext24 x.acc))⟩
  | delay {ms : BitVec 10} {k' : Nat} (h : RowAhead s op k') (hk : k ≠ 0 := by decide) : RowOk s op k (delayRow ms k')

/-- A row that is there by its number alone. -/
theorem RowAhead.of_all {s : State} {op : Op} {k : Nat} (h : ∀ u, (tableOf op u k).isSome = true)
    (hk : k ≠ 0 := by decide) : RowAhead s op k := ⟨hk, fun u _ _ => h u⟩

theorem resetTable_ok {s : State} : ∀ {k : Nat} {r : Row}, resetTable s k = some r → RowOk s .reset k r
  | 0, _, rfl => .read (.edit (.const _ _) (.of_all fun _ => rfl))
  | 1, _, rfl => .write (.of_all fun _ => rfl)
  | 2, _, rfl => .delay (.of_all fun _ => rfl)
  | 3, _, rfl => .read (.edit (.also (.const _ _) _ _) (.of_all fun _ => rfl))
  | 4, _, rfl => .write (.of_all fun _ => rfl)
  | 5, _, rfl => .delay (.of_all fun _ => rfl)
  | 6, _, rfl => .read (.ready (.ret fun _ => 0))
  | _ + 7, _, h => nomatch h

theorem powerDownTable_ok {s : State} : ∀ {k : Nat} {r : Row}, powerDownTable s k = some r → RowOk s .enable k r
  | 0, _, rfl => .read (.edit (.also (.const _ _) _ _) (.of_all fun u => by simp only [tableOf, enableTable]; split <;> rfl))
  | 1, _, rfl => .lastWrite
  | _ + 2, _, h => nomatch h

/-- A row of the power-up table is there as long as the operand latch says power up. -/
theorem RowAhead.of_powerUp {s : State} {k : Nat} (hp : s.aPwr = true) (h : ∀ u, (powerUpTable u k).isSome = true)
    (hk : k ≠ 0 := by decide) : RowAhead s .enable k :=
  ⟨hk, fun u _ hu => by simp [tableOf, enableTable, hu, hp, h]⟩

theorem powerUpTable_ok {s : State} (hp : s.aPwr = true) :
    ∀ {k : Nat} {r : Row}, powerUpTable s k = some r → RowOk s .enable k r
  | 0, _, rfl => .read (.edit (.also (.const _ _) _ _) (.of_powerUp hp fun _ => rfl))
  | 1, _, rfl => .write (.of_powerUp hp fun _ => rfl)
  | 2, _, rfl => .delay (.of_powerUp hp fun _ => rfl)
  | 3, _, rfl => .read (.edit (.const _ _) (.of_powerUp hp fun _ => rfl))
  | 4, _, rfl => .write (.of_powerUp hp fun _ => rfl)
  | 5, _, rfl => .read (.ready (.ret fun _ => 0))
  | _ + 6, _, h => nomatch h

theorem enableTable_ok {s : State} {k : Nat} {r : Row} (h : enableTable s k = some r) : RowOk s .enable k r := by
  unfold enableTable at h
  split at h
  · next hp => exact powerUpTable_ok hp h
  · exact powerDownTable_ok h

theorem availableTable_ok {s : State} : ∀ {k : Nat} {r : Row}, availableTable s k = some r → RowOk s .available k r
  | 0, _, rfl => .read (.ret fun b => ofBool 32 (isSet b (fieldPos .cr)))
  | _ + 1, _, h => nomatch h

theorem readTable_ok {s : State} : ∀ {k : Nat} {r : Row}, readTable s k = some r → RowOk s .read k r
  | 0, _, rfl => .burst rfl rfl
  | _ + 1, _, h => nomatch h

/-- A row that External skips is there as long as the reference latch does not say External. -/
theorem RowAhead.of_internal {s : State} {op : Op} {k : Nat} (hs : s.aLdo ≠ encLdo .ext)
    (h : ∀ u : State, u.aLdo ≠ encLdo .ext → (tableOf op u k).isSome = true) (hk : k ≠ 0 := by decide) : RowAhead s op k :=
  ⟨hk, fun u hu _ => h u (hu ▸ hs)⟩

/-- The edit of `AVDDS` by the reference latch, in SET_LDO and in NEW. -/
theorem EditOk.selector {op : Op} (hl : ∀ x y : State, SameLatches op x y → x.aLdo = y.aLdo) :
    EditOk op (fun x => x.setField .avdds (ofBool 1 (x.aLdo != encLdo .ext))) :=
  .latch .avdds (fun x => ofBool 1 (x.aLdo != encLdo .ext)) fun x y h => by rw [hl x y h]

/-- The edit of `VLDO` by the reference latch, in SET_LDO and in NEW. -/
theorem EditOk.level {op : Op} (hl : ∀ x y : State, SameLatches op x y → x.aLdo = y.aLdo) :
    EditOk op (fun x => x.setField .vldo (x.aLdo.extractLsb' 0 3)) :=
  .latch .vldo (fun x => x.aLdo.extractLsb' 0 3) fun x y h => by rw [hl x y h]

theorem setLdoTable_ok {s : State} : ∀ {k : Nat} {r : Row}, setLdoTable s k = some r → RowOk s .setLdo k r
  | 0, _, rfl => .read (.edit (.selector fun _ _ h => h)
      (.of_all fun u => by simp only [tableOf, setLdoTable]; split <;> rfl))
  | 1, _, h => by
      simp only [setLdoTable] at h
      split at h <;> cases h
      · exact .lastWrite
      · next hs => exact .write (.of_internal hs fun u hu => by simp [tableOf, setLdoTable, hu])
  | 2, _, h => by
      simp only [setLdoTable] at h
      split at h <;> cases h
      next hs =>
      exact .read (.edit (.level fun _ _ h => h) (.of_internal hs fun u hu => by simp [tableOf, setLdoTable, hu]))
  | 3, _, h => by
      simp only [setLdoTable] at h
      split at h <;> cases h
      exact .lastWrite
  | _ + 4, _, h => nomatch h

theorem getLdoTable_ok {s : State} : ∀ {k : Nat} {r : Row}, getLdoTable s k = some r → RowOk s .getLdo k r
  | 0, _, rfl => .read (.ite (isSet · (fieldPos .avdds)) (.edit .keep (.of_all fun _ => rfl)) (.ret fun _ => _))
  | 1, _, rfl => .read (.ret fun b => (extract b (fieldPos .vldo)).setWidth 32)
  | _ + 2, _, h => nomatch h

theorem setGainTable_ok {s : State} : ∀ {k : Nat} {r : Row}, setGainTable s k = some r → RowOk s .setGain k r
  | 0, _, rfl => .read (.edit (.latch .gains State.aGain fun _ _ h => h) (.of_all fun _ => rfl))
  | 1, _, rfl => .lastWrite
  | _ + 2, _, h => nomatch h

theorem getGainTable_ok {s : State} : ∀ {k : Nat} {r : Row}, getGainTable s k = some r → RowOk s .getGain k r
  | 0, _, rfl => .read (.ite (fun b => (decGain (extract b (fieldPos .gains))).isSome)
      (.ret fun b => (extract b (fieldPos .gains)).setWidth 32) (.err fun _ => .invalidData))
  | _ + 1, _, h => nomatch h

theorem setRateTable_ok {s : State} : ∀ {k : Nat} {r : Row}, setRateTable s k = some r → RowOk s .setRate k r
  | 0, _, rfl => .read (.edit (.latch .crs State.aRate fun _ _ h => h) (.of_all fun _ => rfl))
  | 1, _, rfl => .lastWrite
  | _ + 2, _, h => nomatch h

theorem getRateTable_ok {s : State} : ∀ {k : Nat} {r : Row}, getRateTable s k = some r → RowOk s .getRate k r
  | 0, _, rfl => .read (.ite (fun b => (decRate (extract b (fieldPos .crs))).isSome)
      (.ret fun b => (extract b (fieldPos .crs)).setWidth 32) (.err fun _ => .invalidData))
  | _ + 1, _, h => nomatch h

theorem calibrateTable_ok {s : State} : ∀ {k : Nat} {r : Row}, calibrateTable s k = some r → RowOk s .calibrate k r
  | 0, _, rfl => .read (.edit (.also (.latch (op := .calibrate) .calmod State.aMode fun _ _ h => h) _ _) (.of_all fun _ => rfl))
  | 1, _, rfl => .write (.of_all fun _ => rfl)
  | 2, _, rfl => .read (.ite (isSet · (fieldPos .cals)) (.edit .keep (.of_all fun _ => rfl))
      (.ite (isSet · (fieldPos .calErr)) (.err fun _ => .calibrationError) (.ret fun _ => 0)))
  | 3, _, rfl => .delay (.of_all fun _ => rfl)
  | _ + 4, _, h => nomatch h

theorem newTable_ok {s : State} : ∀ {k : Nat} {r : Row}, newTable s k = some r → RowOk s .new k r
  | 0, _, rfl => .read (.edit (.const _ _) (.of_all fun _ => rfl))
  | 1, _, rfl => .write (.of_all fun _ => rfl)
  | 2, _, rfl => .delay (.of_all fun _ => rfl)
  | 3, _, rfl => .read (.edit (.also (.const _ _) _ _) (.of_all fun _ => rfl))
  | 4, _, rfl => .write (.of_all fun _ => rfl)
  | 5, _, rfl => .delay (.of_all fun _ => rfl)
  | 6, _, rfl => .read (.ready (.edit .keep (.of_all fun _ => rfl)))
  | 7, _, rfl => .read (.edit (.also (.const _ _) _ _) (.of_all fun _ => rfl))
  | 8, _, rfl => .write (.of_all fun _ => rfl)
  | 9, _, rfl => .delay (.of_all fun _ => rfl)
  | 10, _, rfl => .read (.edit (.const _ _) (.of_all fun _ => rfl))
  | 11, _, rfl => .write (.of_all fun _ => rfl)
  | 12, _, rfl => .read (.ready (.edit .keep (.of_all fun _ => rfl)))
  | 13, _, rfl => .read (.revision (.edit .keep (.of_all fun _ => rfl)))
  | 14, _, rfl => .read (.edit (.selector fun _ _ h => h.1) (.of_all fun _ => rfl))
  | 15, _, h => by
      cases h
      refine .write ?_
      split
      · exact .of_all fun _ => rfl
      · next hs => exact .of_internal hs fun u hu => by simp [tableOf, newTable, hu]
  | 16, _, h => by
      simp only [newTable] at h
      split at h <;> cases h
      next hs =>
      exact .read (.edit (.level fun _ _ h => h.1) (.of_internal hs fun u hu => by simp [tableOf, newTable, hu]))
  | 17, _, h => by
      simp only [newTable] at h
      split at h <;> cases h
      exact .write (.of_all fun _ => rfl)
  | 18, _, rfl => .read (.edit (.latch .gains State.aGain fun _ _ h => h.2.1) (.of_all fun _ => rfl))
  | 19, _, rfl => .write (.of_all fun _ => rfl)
  | 20, _, rfl => .read (.edit (.latch .crs State.aRate fun _ _ h => h.2.2) (.of_all fun _ => rfl))
  | 21, _, rfl => .write (.of_all fun _ => rfl)
  | 22, _, rfl => .read (.edit (.const _ _) (.of_all fun _ => rfl))
  | 23, _, rfl => .write (.of_all fun _ => rfl)
  | 24, _, rfl => .read (.edit (.const _ _) (.of_all fun _ => rfl))
  | 25, _, rfl => .write (.of_all fun _ => rfl)
  | 26, _, rfl => .read (.edit (.const _ _) (.of_all fun _ => rfl))
  | 27, _, rfl => .handle rfl rfl
  | _ + 28, _, h => nomatch h

/-- Every row of every step table is of one of the six kinds. -/
theorem tableOf_ok {op : Op} {s : State} {k : Nat} {r : Row} (h : tableOf op s k = some r) : RowOk s op k r := by
  cases op with
  | new => exact newTable_ok h
  | reset => exact resetTable_ok h
  | enable => exact enableTable_ok h
  | available => exact availableTable_ok h
  | read => exact readTable_ok h
  | setLdo => exact setLdoTable_ok h
  | getLdo => exact getLdoTable_ok h
  | setGain => exact setGainTable_ok h
  | getGain => exact getGainTable_ok h
  | setRate => exact setRateTable_ok h
  | getRate => exact getRateTable_ok h
  | calibrate => exact calibrateTable_ok h

/-! ### What a table reads of the state -/

/-- A table reads `T` and the latches of its operation, nothing else. -/
theorem tableOf_congr {op : Op} {x y : State} (hl : SameLatches op x y) (ht : x.t = y.t) : tableOf op x = tableOf op y := by
  funext k
  cases op with
  | new => simp only [tableOf, newTable, writeRow, ht, hl.1]
  | reset => simp only [tableOf, resetTable, writeRow, ht]
  | enable =>
    have hp : x.aPwr = y.aPwr := hl
    simp only [tableOf, enableTable, powerUpTable, powerDownTable, writeRow, lastWriteRow, ht, hp]
  | setLdo =>
    have hldo : x.aLdo = y.aLdo := hl
    simp only [tableOf, setLdoTable, writeRow, lastWriteRow, ht, hldo]
  | setGain => simp only [tableOf, setGainTable, lastWriteRow, ht]
  | setRate => simp only [tableOf, setRateTable, lastWriteRow, ht]
  | calibrate => simp only [tableOf, calibrateTable, writeRow, ht]
  | available | read | getLdo | getGain | getRate => rfl

/-- The first row of a table does not read `T`. -/
theorem tableOf_zero_congr {op : Op} {x y : State} (hl : SameLatches op x y) : tableOf op x 0 = tableOf op y 0 := by
  cases op with
  | enable =>
    have hp : x.aPwr = y.aPwr := hl
    simp only [tableOf, enableTable, powerUpTable, powerDownTable, hp]
  | _ => rfl

/-- Every table has a first row. -/
theorem tableOf_zero_isSome (op : Op) (s : State) : (tableOf op s 0).isSome = true := by
  cases op with
  | enable =>
    simp only [tableOf, enableTable]
    split <;> rfl
  | _ => rfl

end Sys2Proof.Machine
end

section
/-! A step in RUN is the outstanding row, carried out by the command in progress or by the bus request that is outstanding
(10_state R22); what it can lead to, said once. -/

namespace Sys2Proof.Machine

open Sys2Proof.Params Sys2Proof.Codec

theorem currentRow_idle {s : State} (h : s.phase = .idle) : currentRow s = none := by simp [currentRow, h]

theorem currentRow_run {s : State} (h : s.phase = .run) : currentRow s = tableOf s.seq.op s s.seq.step := by
  simp [currentRow, h]

/-- The outstanding row is a function of the phase, `SEQ`, the latches of the operation, and `T` but in the first row. -/
theorem currentRow_congr {x y : State} (hp : x.phase = y.phase)
    (hrun : x.phase = .run → x.seq = y.seq ∧ SameLatches x.seq.op x y ∧ (x.seq.step ≠ 0 → x.t = y.t)) :
    currentRow x = currentRow y := by
  cases hx : x.phase with
  | idle => rw [currentRow_idle hx, currentRow_idle (hp ▸ hx)]
  | run =>
    obtain ⟨hseq, hl, ht⟩ := hrun hx
    rw [currentRow_run hx, currentRow_run (hp ▸ hx), ← hseq]
    by_cases hk : x.seq.step = 0
    · rw [hk]
      exact tableOf_zero_congr hl
    · rw [tableOf_congr hl (ht hk)]

/-- The row that is outstanding is a row of the operation in progress, of one of the six kinds. -/
theorem currentRow_ok {s : State} {r : Row} (h : currentRow s = some r) :
    s.phase = .run ∧ RowOk s s.seq.op s.seq.step r := by
  cases hp : s.phase with
  | idle => rw [currentRow_idle hp] at h; cases h
  | run => exact ⟨rfl, tableOf_ok ((currentRow_run hp).symm.trans h)⟩

theorem outstanding_eq_some {s : State} {act : Action} (h : outstanding s = some act) :
    ∃ r, currentRow s = some r ∧ r.action = act := by
  simpa [outstanding] using h

theorem outstanding_idle {s : State} (h : s.phase = .idle) : outstanding s = none := by
  simp [outstanding, currentRow_idle h]

/-! ### The instruction that a step in RUN executes -/

/-- The latches that a command writes (30_encoding R97 to R103, R107). -/
def latchOf : Instr → State → State
  | .new ldo gain rate => State.latchNew ldo gain rate
  | .newDefault => State.latchNew defaultLdo defaultGain defaultRate
  | .enable pwr => State.latchPwr pwr
  | .setLdo ldo => State.latchLdo ldo
  | .setGain gain => State.latchGain gain
  | .setRate rate => State.latchRate rate
  | .calibrate mode => State.latchMode mode
  | _ => State.latchNone

/-- What a command of operation `op` meets in IDLE: NEW needs no handle (10_state R27), every other command does. -/
def acceptOf (i : Instr) (op : Op) : State → State :=
  if op = .new then acceptNew i (latchOf i) else acceptCmd i op (latchOf i)

/-- Every host command is one shape of transition: acceptance in IDLE, the table of its operation in RUN. -/
theorem exec_command {i : Instr} {op : Op} (hop : i.op? = some op) :
    exec i = operate i.expand (acceptOf i op) (tableOf op) := by
  cases i <;> cases hop <;> rfl

/-- The command in progress carries out the outstanding row. -/
theorem exec_running {s : State} (h : s.phase = .run) : exec (running s) s = performRow (currentRow s) s := by
  have hexp : running s = (running s).expand := by
    unfold running
    cases s.seq.op <;> rfl
  rw [exec_command (op_running s), operate_running h hexp, currentRow_run h]

/-- A command that is not the one in progress waits. -/
theorem exec_not_running {s : State} {i : Instr} {op : Op} (h : s.phase = .run) (hop : i.op? = some op)
    (hi : running s ≠ i.expand) : exec i s = .next s := by
  rw [exec_command hop, operate_waiting h hi]

/-- A bus request executes the outstanding row if it is its action. -/
theorem transact_current {s : State} {r : Row} (h : currentRow s = some r) : transact r.action s = perform r s := by
  simp [transact, h]

/-- The request word `q` decodes to a well-formed bus instruction that carries out the action `act`. -/
def Requests (act : Action) (q : ReqWord) : Prop :=
  ∃ i : Instr, decodeReq q = .ok i ∧ i.wf = true ∧ encode i = .req q ∧ ∀ s, exec i s = transact act s

theorem requests_write {a : Byte} (ha : a ∈ AddressMap.writeAddrs) (v : Byte) :
    Requests (.write a v) (packReq (writeReq a v)) :=
  ⟨.busWrite a v, decodeReq_write ha v, List.contains_iff_mem.mpr ha, rfl, fun _ => rfl⟩

theorem requests_read {a : Byte} (ha : a ∈ AddressMap.readAddrs) : Requests (.read a) (packReq (readReq a)) :=
  ⟨.busRead1 a, decodeReq_read ha, List.contains_iff_mem.mpr ha, rfl, fun _ => rfl⟩

theorem requests_burst : Requests .burst (packReq burstReq) :=
  ⟨.busRead3, decodeReq_burst, rfl, rfl, fun _ => rfl⟩

/-- Every row's request word decodes to the bus instruction of the row's action. -/
theorem RowOk.requests {s : State} {op : Op} {k : Nat} {r : Row} {q : ReqWord} (hr : RowOk s op k r)
    (hq : requestWord r.action = some q) : Requests r.action q := by
  cases hr with
  | read _ ha => cases hq; exact requests_read ha
  | write _ ha _ => cases hq; exact requests_write ha s.t
  | lastWrite ha _ => cases hq; exact requests_write ha s.t
  | handle _ _ => cases hq; exact requests_write (by decide) s.t
  | burst _ _ => cases hq; exact requests_burst
  | delay _ _ => cases hq

theorem step_of_rst {s : State} (h : s.rst = true) : step s = .next (blockReset (outstanding s) s) := transition_rst h

/-- An outstanding bus request is executed as the instruction it decodes to. -/
theorem step_request {s : State} {act : Action} {q : ReqWord} {i : Instr} (hrst : s.rst = false)
    (hact : outstanding s = some act) (hq : requestWord act = some q) (hi : decodeReq q = .ok i) :
    step s = exec i s := by
  obtain ⟨r, hr, -⟩ := outstanding_eq_some hact
  have hf : fetch s = .request q := by simp [fetch, (currentRow_ok hr).1, hact, hq]
  have hrun : runRequest q s = exec i s := by simp [runRequest, hi]
  exact (transition_fetch hrst).trans (by rw [hf]; exact hrun)

/-- Without block reset, a step in RUN carries out the row of `SEQ`. -/
theorem step_run {s : State} (h : s.phase = .run) (hrst : s.rst = false) : step s = performRow (currentRow s) s := by
  cases hr : currentRow s with
  | none =>
    have hf : fetch s = .noRow := by simp [fetch, h, outstanding, hr]
    exact (transition_fetch hrst).trans (by rw [hf]; rfl)
  | some r =>
    have hact : outstanding s = some r.action := by simp [outstanding, hr]
    cases hq : requestWord r.action with
    | none =>
      have hf : fetch s = .delay := by simp [fetch, h, hact, hq]
      exact (transition_fetch hrst).trans (by rw [hf, ← hr]; exact exec_running h)
    | some q =>
      obtain ⟨i, hi, -, -, hexec⟩ := (currentRow_ok hr).2.requests hq
      calc step s = exec i s := step_request hrst hact hq hi
        _ = transact r.action s := hexec s
        _ = performRow (some r) s := transact_current hr

/-! ### What a step in RUN leads to -/

/-- An answer is taken: `b` and `d` are left at the two answer ports, and the action's item is in the trace. -/
def State.took (s : State) (b : List BusIn) (d : List DlyIn) (i : TraceItem) : State :=
  ((s.setBusIn b).setDlyIn d).push i

/-- What a step in RUN without block reset leads to. -/
inductive RunStep (s : State) : State → Prop
  /-- The block waits, or a late answer is discarded. -/
  | waits (b : List BusIn) (d : List DlyIn) : RunStep s ((s.setBusIn b).setDlyIn d)
  /-- The answer is in, and another row is next. -/
  | goes (b : List BusIn) (d : List DlyIn) (i : TraceItem) (v : Byte) {k : Nat} (h : RowAhead s s.seq.op k) :
      RunStep s (((s.took b d i).load v).atStep k)
  /-- The operation ends with a response; beside the ports, the trace and the phase only `T` changes. -/
  | ends (b : List BusIn) (d : List DlyIn) (i : TraceItem) (v : Byte) (st : Status) (x : Data) :
      RunStep s ((deliver st x ((s.took b d i).load v)).setPhase .idle)
  /-- NEW ends at its last row, with a handle. -/
  | handle (b : List BusIn) (d : List DlyIn) (i : TraceItem) (h : AtRow s .new 27) :
      RunStep s (returnOk 0 ((s.took b d i).setHandle true))
  /-- READ ends with the signed result in `ACC`. -/
  | result (x : BusAnswer) (b : List BusIn) (i : TraceItem) (h : AtRow s .read 0) (hb : s.busIn = .answer x :: b)
      (hx : x.ok = true) :
      RunStep s (returnOk (sext24 (assemble24 x.rb0 x.rb1 x.rb2))
        ((s.took b s.dlyIn i).setAcc (sext24 (assemble24 x.rb0 x.rb1 x.rb2))))

/-- The end by a transport error. -/
theorem runStep_transport (s : State) (rest : List BusIn) (i : TraceItem) (e : BitVec 2) :
    RunStep s (raise (.transport e) ((s.setBusIn rest).push i)) :=
  .ends rest s.dlyIn i s.t .transport (e.setWidth 32)

/-- A verdict carried out after a read of byte `v`. -/
theorem runStep_verdict {s : State} {c : Verdict} (hc : c.Ok s s.seq.op) (rest : List BusIn) (i : TraceItem) (v : Byte) :
    RunStep s (commit (c.on (((s.setBusIn rest).push i).load v))) := by
  cases c with
  | goto k b => exact .goes rest s.dlyIn i b hc
  | done d => exact .ends rest s.dlyIn i v .ok d
  | fail e => exact .ends rest s.dlyIn i v (errStatus e) (errData e)

/-- A bus action whose answers lead where a step in RUN can lead is such a step. -/
theorem awaitBus_runStep {s t : State} {f : BusAnswer → State → State} (h : awaitBus f s = .next t)
    (hf : ∀ x rest, s.busIn = .answer x :: rest → RunStep s (f x (s.setBusIn rest))) : RunStep s t := by
  obtain ⟨-, rfl⟩ | ⟨x, rest, -, rfl⟩ | ⟨x, rest, hb, rfl⟩ := awaitBus_cases h
  · exact .waits t.busIn t.dlyIn
  · exact .waits rest s.dlyIn
  · exact hf x rest hb

theorem read_runStep {s t : State} {a : Byte} {f : State → Next} (h : perform ⟨.read a, f⟩ s = .next t)
    (hf : ReadOk s s.seq.op f) : RunStep s t := by
  refine awaitBus_runStep (show memRead1 a f s = _ from h) fun x rest _ => ?_
  split
  · obtain ⟨c, hc, hfc, -⟩ := hf (((s.setBusIn rest).push (.rd a x.rb0)).load x.rb0) _ (.refl _ _) rfl
    rw [hfc]
    exact runStep_verdict hc rest (.rd a x.rb0) x.rb0
  · exact runStep_transport s rest (.rdErr a x.errk) x.errk

theorem write_runStep {s t : State} {a v : Byte} {f : State → Next} (h : perform ⟨.write a v, f⟩ s = .next t)
    (hf : ∀ rest, RunStep s (commit (f ((s.setBusIn rest).push (.wr a v))))) : RunStep s t := by
  refine awaitBus_runStep (show memWrite1 a v f s = _ from h) fun x rest _ => ?_
  split
  · exact hf rest
  · exact runStep_transport ..

theorem burst_runStep {s t : State}
    (h : perform ⟨.burst, fun x => .ret (sext24 x.acc) (x.setAcc (sext24 x.acc))⟩ s = .next t) (hrow : AtRow s .read 0) :
    RunStep s t := by
  refine awaitBus_runStep (show memRead3 _ s = _ from h) fun x rest hb => ?_
  split
  · next hx =>
    exact .result x rest (.rd3 adcoB2 x.rb0 x.rb1 x.rb2) hrow hb hx
  · exact runStep_transport ..

theorem delay_runStep {s t : State} {ms : BitVec 10} {k : Nat} (h : perform (delayRow ms k) s = .next t)
    (hk : RowAhead s s.seq.op k) : RunStep s t := by
  obtain ⟨-, rfl⟩ | ⟨rest, -, rfl⟩ | ⟨rest, -, rfl⟩ := delayFor_cases h
  · exact .waits t.busIn t.dlyIn
  · exact .waits s.busIn rest
  · exact .goes s.busIn rest _ s.t hk

/-- A row carried out leads where a step in RUN can lead. -/
theorem RowOk.runStep {s t : State} {r : Row} (hp : s.phase = .run) (hr : RowOk s s.seq.op s.seq.step r)
    (h : perform r s = .next t) : RunStep s t := by
  have atRow {op k} (hop : s.seq.op = op) (hk : s.seq.step = k) : AtRow s op k := by
    subst hop hk
    exact ⟨hp, rfl⟩
  cases hr with
  | read hf _ => exact read_runStep h hf
  | write hk' _ _ => exact write_runStep h fun rest => .goes rest s.dlyIn _ s.t hk'
  | lastWrite _ _ => exact write_runStep h fun rest => .ends rest s.dlyIn _ s.t .ok 0
  | handle hop hk => exact write_runStep h fun rest => .handle rest s.dlyIn _ (atRow hop hk)
  | burst hop hk => exact burst_runStep h (atRow hop hk)
  | delay hk' _ => exact delay_runStep h hk'

theorem step_runStep {s t : State} (hp : s.phase = .run) (hrst : s.rst = false) (h : step s = .next t) : RunStep s t := by
  rw [step_run hp hrst] at h
  cases hr : currentRow s with
  | none => rw [hr] at h; cases h
  | some r =>
    rw [hr] at h
    exact (currentRow_ok hr).2.runStep hp h

end Sys2Proof.Machine
end

section
/-! A step in IDLE takes the word that is offered and accepts or refuses the command (30_encoding R105, R106; 10_state R22,
R26, R27); what it can lead to, said once. -/

namespace Sys2Proof

theorem rateLegal_of_mem {c : BitVec 3} : c.toNat ∈ [0, 1, 2, 3, 7] → rateLegal c = true := by decide +revert

theorem modeLegal_of_mem {c : BitVec 2} : c.toNat ∈ [0, 2, 3] → modeLegal c = true := by decide +revert

end Sys2Proof

namespace Sys2Proof.Machine

open Sys2Proof.Params

/-! ### The state that acceptance leaves -/

/-- The state after the acceptance of the command `i` of operation `op`: its latches are written, `HVALID` is 0 exactly for NEW,
and row 0 is next. -/
def accepted (i : Instr) (op : Op) (s : State) : State := ((latchOf i s).setHandle (op != .new)).start op

section accepted
variable (i : Instr) (op : Op) (s : State)

theorem accepted_atRow : AtRow (accepted i op s) op 0 := ⟨rfl, rfl⟩
@[simp] theorem accepted_phase : (accepted i op s).phase = .run := rfl
@[simp] theorem accepted_seq : (accepted i op s).seq = ⟨op, 0⟩ := rfl
@[simp] theorem accepted_hvalid : (accepted i op s).hvalid = (op != .new) := rfl
@[simp] theorem accepted_acc : (accepted i op s).acc = s.acc := by cases i <;> rfl
@[simp] theorem accepted_rst : (accepted i op s).rst = s.rst := by cases i <;> rfl
@[simp] theorem accepted_cmdIn : (accepted i op s).cmdIn = s.cmdIn := by cases i <;> rfl
@[simp] theorem accepted_busIn : (accepted i op s).busIn = s.busIn := by cases i <;> rfl
@[simp] theorem accepted_dlyIn : (accepted i op s).dlyIn = s.dlyIn := by cases i <;> rfl
@[simp] theorem accepted_trace : (accepted i op s).trace = s.trace := by cases i <;> rfl

end accepted

/-- The command in progress after acceptance is the command accepted. -/
theorem running_accepted {i : Instr} {op : Op} (hop : i.op? = some op) (s : State) :
    running (accepted i op s) = i.expand := by
  cases i <;> cases hop <;> rfl

/-- Acceptance writes no latch but those of the command's format (10_state R26). -/
theorem accepted_latches {i : Instr} {op : Op} (hop : i.op? = some op) (s : State) :
    ((accepted i op s).aLdo ≠ s.aLdo → op = .new ∨ op = .setLdo) ∧
    ((accepted i op s).aGain ≠ s.aGain → op = .new ∨ op = .setGain) ∧
    ((accepted i op s).aRate ≠ s.aRate → op = .new ∨ op = .setRate) ∧
    ((accepted i op s).aMode ≠ s.aMode → op = .calibrate) ∧
    ((accepted i op s).aPwr ≠ s.aPwr → op = .enable) := by
  cases i <;> cases hop <;> simp [accepted, latchOf]

/-! ### The verdict on a command -/

/-- The condition under which a command is accepted in IDLE (30_encoding R105, R106; 10_state R27). -/
def acceptable (i : Instr) (op : Op) (s : State) : Bool := i.wf && (op == .new || s.hvalid)

/-- With a handle, a command other than NEW writes its latches and starts; nothing else changes. -/
theorem accepted_of_handle {i : Instr} {op : Op} {s : State} (hop : op ≠ .new) (hh : s.hvalid = true) :
    accepted i op s = (latchOf i s).start op := by
  have hl : (latchOf i s).hvalid = true := by cases i <;> exact hh
  have hset : (latchOf i s).setHandle true = latchOf i s := by rw [← hl]; rfl
  rw [accepted, bne_iff_ne.mpr hop, hset]

theorem acceptOf_eq (i : Instr) (op : Op) (s : State) :
    acceptOf i op s = if acceptable i op s then accepted i op s else refuse s := by
  by_cases hop : op = .new
  · subst hop
    simp [acceptOf, acceptNew, acceptable, accepted]
  · rw [acceptOf, if_neg hop, acceptCmd, acceptable, beq_eq_false_iff_ne.mpr hop, Bool.false_or]
    split
    · next h => rw [accepted_of_handle hop (Bool.and_eq_true_iff.mp h).2]
    · rfl

/-- A command in IDLE is accepted or refused. -/
theorem exec_idle {i : Instr} {op : Op} {s : State} (hop : i.op? = some op) (h : s.phase = .idle) :
    exec i s = .next (if acceptable i op s then accepted i op s else refuse s) := by
  rw [exec_command hop, operate_idle h, acceptOf_eq]

/-! ### The step in IDLE -/

theorem step_idle_nil {s : State} (h : s.phase = .idle) (hrst : s.rst = false) (hc : s.cmdIn = []) : step s = .next s :=
  (transition_fetch hrst).trans (by simp [fetch, h, hc, runFetched])

theorem step_idle_cons {s : State} {w : CmdWord} {rest : List CmdWord} (h : s.phase = .idle) (hrst : s.rst = false)
    (hc : s.cmdIn = w :: rest) : step s = runCommand w s :=
  (transition_fetch hrst).trans (by simp [fetch, h, hc, runFetched])

theorem runCommand_illegal {w : CmdWord} {e : Illegal} (h : decodeCmd w = .error e) (s : State) :
    runCommand w s = .next (refuse (takeCmd s)) := by
  simp [runCommand, h]

theorem runCommand_legal {w : CmdWord} {i : Instr} {op : Op} {s : State} (hd : decodeCmd w = .ok i)
    (hop : i.op? = some op) (h : s.phase = .idle) :
    runCommand w s =
      .next (if acceptable i op s then accepted i op (takeCmd s) else refuse (takeCmd s)) := by
  simp only [runCommand, hd]
  exact exec_idle hop h

/-- What a step in IDLE without block reset leads to. -/
inductive IdleStep (s : State) : State → Prop
  | waits : IdleStep s s
  | refuses : IdleStep s (refuse (takeCmd s))
  | accepts {w : CmdWord} {i : Instr} {op : Op} (hw : s.cmdIn.head? = some w) (hd : decodeCmd w = .ok i)
      (hop : i.op? = some op) (hwf : i.wf = true) (hh : op = .new ∨ s.hvalid = true) :
      IdleStep s (accepted i op (takeCmd s))

theorem step_idleStep {s t : State} (hp : s.phase = .idle) (hrst : s.rst = false) (h : step s = .next t) :
    IdleStep s t := by
  cases hc : s.cmdIn with
  | nil =>
    rw [step_idle_nil hp hrst hc] at h
    cases h
    exact .waits
  | cons w rest =>
    rw [step_idle_cons hp hrst hc] at h
    cases hd : decodeCmd w with
    | error e =>
      rw [runCommand_illegal hd] at h
      cases h
      exact .refuses
    | ok i =>
      obtain ⟨op, hop⟩ := op_of_decodeCmd hd
      rw [runCommand_legal hd hop hp] at h
      split at h <;> cases h
      · next hacc =>
        obtain ⟨hwf, hh⟩ := Bool.and_eq_true_iff.mp hacc
        exact .accepts (by rw [hc]; rfl) hd hop hwf (by simpa using hh)
      · exact .refuses

end Sys2Proof.Machine
end

section
/-! The statements of 10_state about one step: which transition it is, and what it leaves as it was. -/

namespace Sys2Proof.Machine

/-- What a step leads to: block reset, or a step in IDLE, or a step in RUN. -/
theorem step_cases {s t : State} (h : step s = .next t) :
    (s.rst = true ∧ t = blockReset (outstanding s) s) ∨
    (s.rst = false ∧ s.phase = .idle ∧ IdleStep s t) ∨
    (s.rst = false ∧ s.phase = .run ∧ RunStep s t) := by
  cases hrst : s.rst with
  | true =>
    rw [step_of_rst hrst] at h
    cases h
    exact .inl ⟨rfl, rfl⟩
  | false =>
    cases hp : s.phase with
    | idle => exact .inr (.inl ⟨rfl, rfl, step_idleStep hp hrst h⟩)
    | run => exact .inr (.inr ⟨rfl, rfl, step_runStep hp hrst h⟩)

theorem controlOk_of_idle {s : State} (h : s.phase = .idle) : ControlOk s := by
  have vacuous : ¬ s.phase = .run := by simp [h]
  exact ⟨fun hr => absurd hr vacuous, fun hr => absurd hr vacuous, fun hr => absurd hr vacuous⟩

/-- An accepted command leaves a control state that is legal. -/
theorem controlOk_accepted {i : Instr} {op : Op} (hop : i.op? = some op) (hwf : i.wf = true) (s : State) :
    ControlOk (accepted i op s) := by
  refine ⟨fun hp => ?_, fun _ => ?_, fun _ => ?_⟩
  · rw [currentRow_run hp]
    exact tableOf_zero_isSome op _
  · rw [running_accepted hop]
    exact wf_expand hwf
  · simp

/-- A step in RUN keeps the control state legal. -/
theorem RunStep.controlOk {s t : State} (hs : ControlOk s) (h : RunStep s t) : ControlOk t := by
  obtain ⟨hseq, hlatches, hhandle⟩ := hs
  cases h with
  | waits b d =>
    have hrow : currentRow ((s.setBusIn b).setDlyIn d) = currentRow s :=
      currentRow_congr rfl fun _ => ⟨rfl, .refl _ s, fun _ => rfl⟩
    exact ⟨fun hp' => hrow ▸ hseq hp', hlatches, hhandle⟩
  | goes b d i v hk =>
    refine ⟨fun hp => ?_, by simpa [LatchesOk, State.took] using hlatches, by simpa [HandleOk, State.took] using hhandle⟩
    rw [currentRow_run hp]
    exact hk.2 _ (by simp [State.took]) (by simp [State.took])
  | ends _ _ _ _ _ _ => exact controlOk_of_idle rfl
  | handle _ _ _ _ => exact controlOk_of_idle rfl
  | result _ _ _ _ _ _ => exact controlOk_of_idle rfl

/-- A step in RUN leaves the latches as they were (10_state R26). -/
theorem RunStep.latches {s t : State} (h : RunStep s t) :
    t.aLdo = s.aLdo ∧ t.aGain = s.aGain ∧ t.aRate = s.aRate ∧ t.aMode = s.aMode ∧ t.aPwr = s.aPwr := by
  cases h <;> simp [State.took]

/-- A step in RUN takes no word (10_state R21). -/
theorem RunStep.cmdIn {s t : State} (h : RunStep s t) : t.cmdIn = s.cmdIn := by
  cases h <;> simp [State.took]

end Sys2Proof.Machine

section
open Sys2Proof Sys2Proof.Machine Sys2Proof.Params

/-- Settles O50, by cases on what a step leads to. -/
theorem stepKeepsControlOk : Obligations.StepKeepsControlOk := by
  intro s t hs h
  obtain ⟨-, rfl⟩ | ⟨-, hp, hidle⟩ | ⟨-, -, hrun⟩ := step_cases h
  · exact controlOk_of_idle rfl
  · cases hidle with
    | waits => exact hs
    | refuses => exact controlOk_of_idle hp
    | accepts _ _ hop hwf _ => exact controlOk_accepted hop hwf _
  · exact hrun.controlOk hs

/-- Settles O16: both sides carry out the row of `SEQ`. -/
theorem stepInRunIsTheCommandInProgress : Obligations.StepInRunIsTheCommandInProgress :=
  fun _ hp hrst => (step_run hp hrst).trans (exec_running hp).symm

/-- Settles O18: a command that is not in progress waits, and neither block reset nor a row takes a word. -/
theorem busyBlockTakesNoCommand : Obligations.BusyBlockTakesNoCommand := by
  refine ⟨fun s i hp hop hi => ?_, fun s t hp h => ?_⟩
  · obtain ⟨op, hop⟩ := Option.ne_none_iff_exists'.mp hop
    exact exec_not_running hp hop hi
  · obtain ⟨-, rfl⟩ | ⟨-, hidle, -⟩ | ⟨-, -, hrun⟩ := step_cases h
    · rfl
    · simp [hp] at hidle
    · exact hrun.cmdIn

/-- Settles O54: block reset, the acceptance of NEW and NEW's last row are the three kinds of step that write `HVALID`; the
acceptance of another command finds it 1 and leaves it 1. -/
theorem handleChangesOnlyByNewAndReset : Obligations.HandleChangesOnlyByNewAndReset := by
  intro s t h hne
  obtain ⟨hrst, rfl⟩ | ⟨hrst, hp, hidle⟩ | ⟨hrst, hp, hrun⟩ := step_cases h
  · exact .inl ⟨hrst, rfl⟩
  · cases hidle with
    | waits => exact absurd rfl hne
    | refuses => exact absurd rfl hne
    | @accepts w i op hw hd hop _ hh =>
      have hnew : op = .new := by
        by_contra hop'
        exact hne (by simp [hh.resolve_left hop', hop'])
      subst hnew
      exact .inr (.inl ⟨hrst, hp, accepted_atRow _ _ _, rfl, w, i, hw, hd, hop⟩)
  · cases hrun with
    | handle b d item hrow => exact .inr (.inr ⟨hrst, hrow, rfl, rfl, item, by simp [State.took]⟩)
    | _ => simp [State.took] at hne

/-- Settles O55: of all steps only READ's answered burst writes `ACC`. -/
theorem accIsWrittenOnlyByRead : Obligations.AccIsWrittenOnlyByRead := by
  intro s t hrst h hne
  obtain ⟨hrst', -⟩ | ⟨-, -, hidle⟩ | ⟨-, -, hrun⟩ := step_cases h
  · simp [hrst] at hrst'
  · cases hidle with
    | waits => exact absurd rfl hne
    | refuses => exact absurd rfl hne
    | accepts _ _ _ _ _ => simp at hne
  · cases hrun with
    | result x b i hrow hb hx => exact ⟨hrow, x, b, hb, hx, by simp⟩
    | _ => simp [State.took] at hne

/-- Settles O56: in IDLE only an acceptance writes latches, and then only those of its format; in RUN nothing does. -/
theorem latchesAreWrittenOnlyAtAcceptance : Obligations.LatchesAreWrittenOnlyAtAcceptance := by
  intro s t hrst h
  obtain ⟨hrst', -⟩ | ⟨-, hp, hidle⟩ | ⟨-, -, hrun⟩ := step_cases h
  · simp [hrst] at hrst'
  · refine ⟨fun hp' => by simp [hp] at hp', ?_⟩
    cases hidle with
    | waits => simp
    | refuses => simp
    | accepts _ _ hop _ _ =>
      obtain ⟨hldo, hgain, hrate, hmode, hpwr⟩ := accepted_latches hop (takeCmd s)
      exact ⟨fun hne => ⟨rfl, rfl, hldo hne⟩, fun hne => ⟨rfl, rfl, hgain hne⟩, fun hne => ⟨rfl, rfl, hrate hne⟩,
        fun hne => ⟨rfl, rfl, hmode hne⟩, fun hne => ⟨rfl, rfl, hpwr hne⟩⟩
  · obtain ⟨hldo, hgain, hrate, hmode, hpwr⟩ := hrun.latches
    exact ⟨fun _ => hrun.latches, absurd hldo, absurd hgain, absurd hrate, absurd hmode, absurd hpwr⟩

/-- Settles O15: the outstanding row is one of the bus kinds, whose request words decode. -/
theorem stepRunsTheOutstandingRequest : Obligations.StepRunsTheOutstandingRequest := by
  intro s act q hrst hact hq
  obtain ⟨r, hr, rfl⟩ := outstanding_eq_some hact
  obtain ⟨i, hi, hwf, henc, -⟩ := (currentRow_ok hr).2.requests hq
  exact ⟨i, hi, hwf, henc, step_request hrst hact hq hi⟩

/-- Settles O20: each command's operand is legal, so it is accepted. -/
theorem commandsAreAccepted : Obligations.CommandsAreAccepted := by
  intro s hp hh
  have accept {i : Instr} {op : Op} (hop : i.op? = some op) (hwf : i.wf = true) (hnew : op ≠ .new) :
      exec i s = .next ((latchOf i s).start op) := by
    rw [exec_idle hop hp, ← accepted_of_handle hnew hh, if_pos (by simp [acceptable, hwf, hh])]
  exact ⟨accept rfl rfl nofun, fun _ => accept rfl rfl nofun, accept rfl rfl nofun, accept rfl rfl nofun,
    fun ldo hldo => accept rfl ((ldoLegal_iff ldo).mpr hldo) nofun, accept rfl rfl nofun,
    fun gain => accept rfl (gainLegal_eq gain) nofun, accept rfl rfl nofun,
    fun _ hrate => accept rfl (rateLegal_of_mem hrate) nofun, accept rfl rfl nofun,
    fun _ hmode => accept rfl (modeLegal_of_mem hmode) nofun⟩

/-- Settles O21: NEW's operands are legal, and it needs no handle. -/
theorem newIsAcceptedAndClearsTheHandle : Obligations.NewIsAcceptedAndClearsTheHandle := by
  intro s ldo gain rate hp hldo hrate
  have hwf : (Instr.new ldo gain rate).wf = true := by
    simp [Instr.wf, (ldoLegal_iff ldo).mpr hldo, gainLegal_eq gain, rateLegal_of_mem hrate]
  rw [exec_idle rfl hp, if_pos (by simp [acceptable, hwf])]
  rfl

/-- Settles O43: the fields of the reset state, read off. -/
theorem resetStateIsIdleWithoutHandle : Obligations.ResetStateIsIdleWithoutHandle :=
  ⟨rfl, rfl, rfl, outstanding_idle rfl⟩

/-- Settles O51: in IDLE nothing is outstanding, so each invariant asks nothing. -/
theorem resetHasTheInvariants : Obligations.ResetHasTheInvariants := by
  have hout : outstanding State.reset = none := outstanding_idle rfl
  refine ⟨controlOk_of_idle rfl, fun a v h => ?_, fun _ h => ?_⟩
  · simp [hout] at h
  · simp [hout] at h

end
end

section
/-! Two states that differ in dead registers alone take steps that differ in dead registers alone (10_state R24 to R28). -/

namespace Sys2Proof.Machine

open Sys2Proof.Codec

/-! ### Updates that keep `SameButDead` -/

section updates
variable {s u : State}

theorem SameButDead.setBusIn (h : SameButDead s u) (b : List BusIn) : SameButDead (s.setBusIn b) (u.setBusIn b) := by
  obtain ⟨hphase, hhandle, hrst, hcmd, -, hdly, htrace, hrun⟩ := h
  exact ⟨hphase, hhandle, hrst, hcmd, rfl, hdly, htrace, hrun⟩

theorem SameButDead.setDlyIn (h : SameButDead s u) (d : List DlyIn) : SameButDead (s.setDlyIn d) (u.setDlyIn d) := by
  obtain ⟨hphase, hhandle, hrst, hcmd, hbus, -, htrace, hrun⟩ := h
  exact ⟨hphase, hhandle, hrst, hcmd, hbus, rfl, htrace, hrun⟩

theorem SameButDead.takeCmd (h : SameButDead s u) : SameButDead (takeCmd s) (takeCmd u) := by
  obtain ⟨hphase, hhandle, hrst, hcmd, hbus, hdly, htrace, hrun⟩ := h
  exact ⟨hphase, hhandle, hrst, congrArg List.tail hcmd, hbus, hdly, htrace, hrun⟩

theorem SameButDead.push (h : SameButDead s u) (i : TraceItem) : SameButDead (s.push i) (u.push i) := by
  obtain ⟨hphase, hhandle, hrst, hcmd, hbus, hdly, htrace, hrun⟩ := h
  exact ⟨hphase, hhandle, hrst, hcmd, hbus, hdly, congrArg (i :: ·) htrace, hrun⟩

theorem SameButDead.setHandle (h : SameButDead s u) (b : Bool) : SameButDead (s.setHandle b) (u.setHandle b) := by
  obtain ⟨hphase, -, hrst, hcmd, hbus, hdly, htrace, hrun⟩ := h
  exact ⟨hphase, rfl, hrst, hcmd, hbus, hdly, htrace, hrun⟩

/-- `ACC` is dead in every phase. -/
theorem SameButDead.setAcc (h : SameButDead s u) (v w : Data) : SameButDead (s.setAcc v) (u.setAcc w) := h

theorem SameButDead.load (h : SameButDead s u) (v : Byte) : SameButDead (s.load v) (u.load v) := by
  obtain ⟨hphase, hhandle, hrst, hcmd, hbus, hdly, htrace, hrun⟩ := h
  refine ⟨hphase, hhandle, hrst, hcmd, hbus, hdly, htrace, fun hp => ?_⟩
  obtain ⟨hseq, hcommand, -⟩ := hrun hp
  exact ⟨hseq, hcommand, fun _ => rfl⟩

/-- `T` is alive in every row but the first. -/
theorem SameButDead.atStep (h : SameButDead s u) (ht : s.t = u.t) (k : Nat) :
    SameButDead (s.atStep k) (u.atStep k) := by
  obtain ⟨hphase, hhandle, hrst, hcmd, hbus, hdly, htrace, hrun⟩ := h
  refine ⟨hphase, hhandle, hrst, hcmd, hbus, hdly, htrace, fun hp => ?_⟩
  obtain ⟨hseq, hcommand, -⟩ := hrun hp
  exact ⟨congrArg (fun q : Seq => { q with step := k }) hseq, hcommand, fun _ => ht⟩

/-- Every register but `HVALID` is dead at the end of an operation. -/
theorem SameButDead.toIdle (h : SameButDead s u) : SameButDead (s.setPhase .idle) (u.setPhase .idle) := by
  obtain ⟨-, hhandle, hrst, hcmd, hbus, hdly, htrace, -⟩ := h
  exact ⟨rfl, hhandle, hrst, hcmd, hbus, hdly, htrace, nofun⟩

theorem SameButDead.returnOk (h : SameButDead s u) (v : Data) : SameButDead (returnOk v s) (returnOk v u) :=
  (h.push _).toIdle

theorem SameButDead.raise (h : SameButDead s u) (e : Err) : SameButDead (raise e s) (raise e u) :=
  (h.push _).toIdle

theorem SameButDead.refuse (h : SameButDead s u) : SameButDead (refuse s) (refuse u) := h.push _

/-- Acceptance writes every latch that its operation reads. -/
theorem SameButDead.accepted (h : SameButDead s u) {i : Instr} {op : Op} (hop : i.op? = some op) :
    SameButDead (accepted i op s) (accepted i op u) := by
  obtain ⟨-, -, hrst, hcmd, hbus, hdly, htrace, -⟩ := h
  simp only [SameButDead, accepted_phase, accepted_hvalid, accepted_rst, accepted_cmdIn, accepted_busIn, accepted_dlyIn,
    accepted_trace, accepted_seq, running_accepted hop]
  exact ⟨trivial, trivial, hrst, hcmd, hbus, hdly, htrace, fun _ => ⟨trivial, trivial, absurd rfl⟩⟩

/-- In RUN the latches of the operation in progress are alive. -/
theorem SameButDead.sameLatches (h : SameButDead s u) (hp : s.phase = .run) : SameLatches s.seq.op s u := by
  obtain ⟨-, -, -, -, -, -, -, hrun⟩ := h
  obtain ⟨hseq, hcommand, -⟩ := hrun hp
  exact (running_eq_iff (congrArg Seq.op hseq)).mp hcommand

/-- Both states have the same row outstanding. -/
theorem SameButDead.currentRow (h : SameButDead s u) : currentRow s = currentRow u := by
  obtain ⟨hphase, -, -, -, -, -, -, hrun⟩ := id h
  refine currentRow_congr hphase fun hp => ?_
  obtain ⟨hseq, -, ht⟩ := hrun hp
  exact ⟨hseq, h.sameLatches hp, ht⟩

theorem SameButDead.blockReset (h : SameButDead s u) (out : Option Action) :
    SameButDead (blockReset out s) (blockReset out u) := by
  obtain ⟨-, -, -, hcmd, hbus, hdly, htrace, -⟩ := h
  refine ⟨rfl, rfl, rfl, hcmd, ?_, ?_, htrace, nofun⟩
  · simp only [Machine.blockReset, hbus]
  · simp only [Machine.blockReset, hdly]

/-- A verdict carried out. -/
theorem SameButDead.verdict (h : SameButDead s u) (c : Verdict) : SameButDead (commit (c.on s)) (commit (c.on u)) := by
  cases c with
  | goto k b => exact (h.load b).atStep rfl k
  | done v => exact h.returnOk v
  | fail e => exact h.raise e

end updates

/-! ### Rows -/

/-- Two states that differ in dead registers alone, and the results of one transition each: where the first goes on, so does the
second, and their next states differ in dead registers alone. -/
def StepsAlike (p q : Result) : Prop := ∀ t, p = .next t → ∃ v, q = .next v ∧ SameButDead t v

theorem stepsAlike_next {t v : State} (h : SameButDead t v) : StepsAlike (.next t) (.next v) := by
  intro _ ht
  cases ht
  exact ⟨v, rfl, h⟩

theorem awaitBus_stepsAlike {f g : BusAnswer → State → State} {s u : State} (h : SameButDead s u)
    (hfg : ∀ x rest, SameButDead (f x (s.setBusIn rest)) (g x (u.setBusIn rest))) :
    StepsAlike (awaitBus f s) (awaitBus g u) := by
  obtain ⟨-, -, -, -, hbus, -⟩ := id h
  cases hb : s.busIn with
  | nil =>
    rw [awaitBus_nil hb, awaitBus_nil (hbus ▸ hb)]
    exact stepsAlike_next h
  | cons y rest =>
    cases y with
    | late x =>
      rw [awaitBus_late hb, awaitBus_late (hbus ▸ hb)]
      exact stepsAlike_next (h.setBusIn rest)
    | answer x =>
      rw [awaitBus_answer hb, awaitBus_answer (hbus ▸ hb)]
      exact stepsAlike_next (hfg x rest)

theorem delayFor_stepsAlike {ms : BitVec 10} {k : State → Next} {s u : State} (h : SameButDead s u)
    (hk : ∀ rest, SameButDead (commit (k ((s.setDlyIn rest).push (.dly ms)))) (commit (k ((u.setDlyIn rest).push (.dly ms))))) :
    StepsAlike (delayFor ms k s) (delayFor ms k u) := by
  obtain ⟨-, -, -, -, -, hdly, -⟩ := id h
  simp only [delayFor, ← hdly]
  split
  · exact stepsAlike_next h
  · exact stepsAlike_next (h.setDlyIn _)
  · exact stepsAlike_next (hk _)

theorem write_stepsAlike {s u : State} {a v : Byte} {f : State → Next} (h : SameButDead s u)
    (hf : ∀ rest, SameButDead (commit (f ((s.setBusIn rest).push (.wr a v)))) (commit (f ((u.setBusIn rest).push (.wr a v))))) :
    StepsAlike (perform ⟨.write a v, f⟩ s) (perform ⟨.write a v, f⟩ u) := by
  show StepsAlike (memWrite1 a v f s) (memWrite1 a v f u)
  refine awaitBus_stepsAlike h fun x rest => ?_
  split
  · exact hf rest
  · exact ((h.setBusIn rest).push _).raise _

/-- A row carried out in two states that differ in dead registers alone. -/
theorem RowOk.stepsAlike {s u : State} {r : Row} (hr : RowOk s s.seq.op s.seq.step r) (hp : s.phase = .run)
    (h : SameButDead s u) : StepsAlike (perform r s) (perform r u) := by
  obtain ⟨-, -, -, -, -, -, -, hrun⟩ := id h
  obtain ⟨-, -, ht⟩ := hrun hp
  cases hr with
  | @read a f hf _ =>
    show StepsAlike (memRead1 a f s) (memRead1 a f u)
    refine awaitBus_stepsAlike h fun x rest => ?_
    split
    · obtain ⟨c, -, hs, hu⟩ := hf (((s.setBusIn rest).push (.rd a x.rb0)).load x.rb0)
        (((u.setBusIn rest).push (.rd a x.rb0)).load x.rb0) (h.sameLatches hp) rfl
      rw [hs, hu]
      exact (((h.setBusIn rest).push _).load _).verdict c
    · exact ((h.setBusIn rest).push _).raise _
  | write _ _ hk => exact write_stepsAlike h fun rest => ((h.setBusIn rest).push _).atStep (ht hk) _
  | lastWrite _ _ => exact write_stepsAlike h fun rest => ((h.setBusIn rest).push _).returnOk 0
  | handle _ _ => exact write_stepsAlike h fun rest => (((h.setBusIn rest).push _).setHandle true).returnOk 0
  | burst _ _ =>
    show StepsAlike (memRead3 _ s) (memRead3 _ u)
    refine awaitBus_stepsAlike h fun x rest => ?_
    split
    · exact (((h.setBusIn rest).push _).setAcc _ _).returnOk _
    · exact ((h.setBusIn rest).push _).raise _
  | delay _ hk => exact delayFor_stepsAlike h fun rest => ((h.setDlyIn rest).push _).atStep (ht hk) _

/-! ### Steps and runs -/

theorem runCommand_stepsAlike {s u : State} (w : CmdWord) (hp : s.phase = .idle) (h : SameButDead s u) :
    StepsAlike (runCommand w s) (runCommand w u) := by
  obtain ⟨hphase, hhandle, -⟩ := id h
  cases hd : decodeCmd w with
  | error e =>
    rw [runCommand_illegal hd, runCommand_illegal hd]
    exact stepsAlike_next h.takeCmd.refuse
  | ok i =>
    obtain ⟨op, hop⟩ := op_of_decodeCmd hd
    rw [runCommand_legal hd hop hp, runCommand_legal hd hop (hphase ▸ hp), acceptable, acceptable, ← hhandle]
    split
    · exact stepsAlike_next (h.takeCmd.accepted hop)
    · exact stepsAlike_next h.takeCmd.refuse

theorem step_stepsAlike {s u : State} (h : SameButDead s u) : StepsAlike (step s) (step u) := by
  obtain ⟨hphase, -, hrst, hcmd, -⟩ := id h
  cases hr : s.rst with
  | true =>
    have hout : outstanding s = outstanding u := congrArg (Option.map Row.action) h.currentRow
    rw [step_of_rst hr, step_of_rst (hrst ▸ hr), hout]
    exact stepsAlike_next (h.blockReset _)
  | false =>
    cases hp : s.phase with
    | idle =>
      cases hc : s.cmdIn with
      | nil =>
        rw [step_idle_nil hp hr hc, step_idle_nil (hphase ▸ hp) (hrst ▸ hr) (hcmd ▸ hc)]
        exact stepsAlike_next h
      | cons w rest =>
        rw [step_idle_cons hp hr hc, step_idle_cons (hphase ▸ hp) (hrst ▸ hr) (hcmd ▸ hc)]
        exact runCommand_stepsAlike w hp h
    | run =>
      rw [step_run hp hr, step_run (hphase ▸ hp) (hrst ▸ hr), ← h.currentRow]
      cases hrow : Machine.currentRow s with
      | none => exact nofun
      | some r =>
        show StepsAlike (perform r s) (perform r u)
        exact (currentRow_ok hrow).2.stepsAlike hp h

theorem steps_succ_next {n : Nat} {s t : State} :
    steps (n + 1) s = .next t ↔ ∃ m, step s = .next m ∧ steps n m = .next t := by
  rw [steps]
  cases step s <;> simp

end Sys2Proof.Machine

section
open Sys2Proof Sys2Proof.Machine

/-- Settles O57, by induction on the number of steps. -/
theorem deadRegistersAreNeverObserved : Obligations.DeadRegistersAreNeverObserved := by
  intro n
  induction n with
  | zero =>
    intro s u t h hs
    cases hs
    exact ⟨u, rfl, h⟩
  | succ n ih =>
    intro s u t h hs
    obtain ⟨m, hm, hrest⟩ := steps_succ_next.mp hs
    obtain ⟨m', hm', h'⟩ := step_stepsAlike h m hm
    obtain ⟨v, hv, hsame⟩ := ih m m' t h' hrest
    exact ⟨v, steps_succ_next.mpr ⟨m', hm', hv⟩, hsame⟩

end
end

section
/-! GET_LDO reaches 0x01 only with `AVDDS` 1 (20_memory R61, 44_config R191): what an answered read leads to, and when the read of
0x01 is outstanding. -/

namespace Sys2Proof.Machine

open Sys2Proof.Params Sys2Proof.Codec

/-- A single read waits, or goes on with the byte read, or ends with a transport error. -/
theorem memRead1_cases {a : Byte} {k : State → Next} {s t : State} (h : memRead1 a k s = .next t) :
    (∃ l, t = s.setBusIn l) ∨
    (∃ x rest, t = commit (k (((s.setBusIn rest).push (.rd a x)).load x))) ∨
    t.phase = .idle := by
  obtain ⟨-, rfl⟩ | ⟨x, rest, -, rfl⟩ | ⟨x, rest, -, rfl⟩ := awaitBus_cases h
  · exact .inl ⟨t.busIn, rfl⟩
  · exact .inl ⟨rest, rfl⟩
  · split
    · exact .inr (.inl ⟨x.rb0, rest, rfl⟩)
    · exact .inr (.inr rfl)

theorem not_atRow_of_idle {s : State} {op : Op} {k : Nat} (h : s.phase = .idle) : ¬ AtRow s op k := by
  rintro ⟨hp, -⟩
  simp [h] at hp

/-- In GET_LDO the read of 0x01 is row 1, and no other row issues it. -/
theorem outstanding_read_ctrl1_iff {s : State} (hop : s.seq.op = .getLdo) :
    outstanding s = some (.read ctrl1) ↔ AtRow s .getLdo 1 := by
  obtain ⟨phase, ⟨op, k⟩⟩ := s
  obtain rfl : op = .getLdo := hop
  cases phase with
  | idle => exact ⟨nofun, fun h => absurd h (not_atRow_of_idle rfl)⟩
  | run =>
    match k with
    | 0 => exact ⟨fun h => absurd (Action.read.inj (Option.some.inj h)) (by decide), nofun⟩
    | 1 => exact ⟨fun _ => ⟨rfl, rfl⟩, fun _ => rfl⟩
    | _ + 2 => exact ⟨nofun, nofun⟩

/-- The last thing the block did was to read `AVDDS` as 1. -/
def SelectorRead (s : State) : Prop :=
  ∃ b rest, s.trace = .rd 0x00 b :: rest ∧ extract b (fieldPos .avdds) = 1

theorem selectorOk_iff {s : State} : SelectorOk s ↔ (AtRow s .getLdo 1 → SelectorRead s) := by
  refine ⟨fun h hrow => ?_, fun h hop hout => h ((outstanding_read_ctrl1_iff hop).mp hout)⟩
  have hop : s.seq.op = .getLdo := congrArg Seq.op hrow.2
  exact h hop ((outstanding_read_ctrl1_iff hop).mpr hrow)

theorem selectorOk_of_idle {s : State} (h : s.phase = .idle) : SelectorOk s :=
  selectorOk_iff.mpr fun hrow => absurd hrow (not_atRow_of_idle h)

theorem selectorOk_of_op {s : State} (h : s.seq.op ≠ .getLdo) : SelectorOk s := fun hop => absurd hop h

theorem SelectorOk.setBusIn {s : State} (h : SelectorOk s) (l : List BusIn) : SelectorOk (s.setBusIn l) :=
  selectorOk_iff.mpr (selectorOk_iff (s := s) |>.mp h)

/-- A command just accepted is at row 0. -/
theorem selectorOk_accepted (i : Instr) (op : Op) (s : State) : SelectorOk (accepted i op s) := by
  refine selectorOk_iff.mpr fun ⟨_, hseq⟩ => ?_
  simp at hseq

/-- Row 0 of GET_LDO goes on to row 1 only with `AVDDS` 1 in the byte it has read. -/
theorem selectorOk_commit_row0 {s : State} {x : Byte} (htrace : ∃ rest, s.trace = .rd 0x00 x :: rest) (ht : s.t = x) :
    SelectorOk (commit (if s.avdds then .row 1 s else .ret ((encLdo .ext).setWidth 32) s)) := by
  split
  · next hset =>
    obtain ⟨rest, htrace⟩ := htrace
    subst ht
    exact selectorOk_iff.mpr fun _ => ⟨s.t, rest, htrace, eq_of_beq hset⟩
  · exact selectorOk_of_idle rfl

/-- The two rows of GET_LDO keep the property. -/
theorem getLdoTable_selectorOk {s t : State} (hs : SelectorOk s) :
    ∀ {k : Nat}, performRow (getLdoTable s k) s = .next t → SelectorOk t
  | 0, h => by
      obtain ⟨l, rfl⟩ | ⟨x, rest, rfl⟩ | hidle := memRead1_cases h
      · exact hs.setBusIn l
      · exact selectorOk_commit_row0 ⟨s.trace, rfl⟩ rfl
      · exact selectorOk_of_idle hidle
  | 1, h => by
      obtain ⟨l, rfl⟩ | ⟨x, rest, rfl⟩ | hidle := memRead1_cases h
      · exact hs.setBusIn l
      · exact selectorOk_of_idle rfl
      · exact selectorOk_of_idle hidle
  | _ + 2, h => nomatch h

/-- A step in RUN stays with its operation (10_state R22). -/
theorem RunStep.op {s t : State} (h : RunStep s t) : t.seq.op = s.seq.op := by
  cases h <;> simp [State.took]

end Sys2Proof.Machine

section
open Sys2Proof Sys2Proof.Machine

/-- Settles O59: the read of 0x01 is reached from row 0 alone, and there by the byte of `AVDDS` just read. -/
theorem stepKeepsSelectorOk : Obligations.StepKeepsSelectorOk := by
  intro s t hs h
  obtain ⟨-, rfl⟩ | ⟨-, hp, hidle⟩ | ⟨hrst, hp, hrun⟩ := step_cases h
  · exact selectorOk_of_idle rfl
  · cases hidle with
    | waits => exact hs
    | refuses => exact selectorOk_of_idle hp
    | accepts _ _ _ _ _ => exact selectorOk_accepted _ _ _
  · by_cases hop : s.seq.op = .getLdo
    · rw [step_run hp hrst, currentRow_run hp, hop] at h
      exact getLdoTable_selectorOk hs h
    · exact selectorOk_of_op (hrun.op ▸ hop)

end
end

section
/-! What waits at the command port has no part in a row: a row carried out with other words at the port leads to the same state
with those words (20_memory R79, 60_exceptions R227). -/

namespace Sys2Proof.Machine

/-- Words put at the command port have no part in what is outstanding. -/
theorem currentRow_setCmdIn (s : State) (words : List CmdWord) : currentRow (s.setCmdIn words) = currentRow s :=
  currentRow_congr rfl fun _ => ⟨rfl, .refl _ s, fun _ => rfl⟩

/-- What `p` does in `s` does not depend on the command port: with other words there, it leads to the same state with those
words. -/
def IgnoresPort (p : State → Result) (s : State) : Prop :=
  ∀ t words, p s = .next t → p (s.setCmdIn words) = .next (t.setCmdIn words)

/-- A bus action ignores the port if what its answer leads to does. -/
theorem awaitBus_ignoresPort {f : BusAnswer → State → State} {s : State}
    (hf : ∀ x rest words, f x ((s.setBusIn rest).setCmdIn words) = (f x (s.setBusIn rest)).setCmdIn words) :
    IgnoresPort (awaitBus f) s := by
  intro t words h
  obtain ⟨hb, rfl⟩ | ⟨x, rest, hb, rfl⟩ | ⟨x, rest, hb, rfl⟩ := awaitBus_cases h
  · exact awaitBus_nil hb
  · exact awaitBus_late hb
  · exact (awaitBus_answer (s := s.setCmdIn words) hb).trans (congrArg _ (hf x rest words))

theorem write_ignoresPort {s : State} {a v : Byte} {f : State → Next}
    (hf : ∀ u words, commit (f (u.setCmdIn words)) = (commit (f u)).setCmdIn words) :
    IgnoresPort (perform ⟨.write a v, f⟩) s := by
  show IgnoresPort (memWrite1 a v f) s
  refine awaitBus_ignoresPort fun x rest words => ?_
  split
  · exact hf ((s.setBusIn rest).push (.wr a v)) words
  · rfl

theorem delayFor_nil {ms : BitVec 10} {k : State → Next} {s : State} (h : s.dlyIn = []) : delayFor ms k s = .next s := by
  simp [delayFor, h]

theorem delayFor_late {ms : BitVec 10} {k : State → Next} {s : State} {rest} (h : s.dlyIn = .late :: rest) :
    delayFor ms k s = .next (s.setDlyIn rest) := by
  simp [delayFor, h]

/-- A delay row ignores the port: its answer only moves on to another row. -/
theorem delay_ignoresPort {s : State} {ms : BitVec 10} {k : Nat} : IgnoresPort (perform (delayRow ms k)) s := by
  intro t words h
  obtain ⟨hd, rfl⟩ | ⟨rest, hd, rfl⟩ | ⟨rest, hd, rfl⟩ := delayFor_cases h
  · exact delayFor_nil hd
  · exact delayFor_late hd
  · exact delayFor_done (s := s.setCmdIn words) hd

theorem commit_verdict_setCmdIn (c : Verdict) (s : State) (words : List CmdWord) :
    commit (c.on (s.setCmdIn words)) = (commit (c.on s)).setCmdIn words := by
  cases c <;> rfl

/-- What a read row makes of its byte does not depend on the command port, because it depends on `T` and the latches alone. -/
theorem ReadOk.commit_setCmdIn {s : State} {op : Op} {f : State → Next} (hf : ReadOk s op f) (u : State)
    (words : List CmdWord) : commit (f (u.setCmdIn words)) = (commit (f u)).setCmdIn words := by
  obtain ⟨c, -, hu, hu'⟩ := hf u (u.setCmdIn words) (.refl op u) rfl
  rw [hu, hu', commit_verdict_setCmdIn]

theorem read_ignoresPort {s : State} {op : Op} {a : Byte} {f : State → Next} (hf : ReadOk s op f) :
    IgnoresPort (perform ⟨.read a, f⟩) s := by
  show IgnoresPort (memRead1 a f) s
  refine awaitBus_ignoresPort fun x rest words => ?_
  split
  · exact hf.commit_setCmdIn (((s.setBusIn rest).push (.rd a x.rb0)).load x.rb0) words
  · rfl

/-- Every kind of row ignores the command port. -/
theorem RowOk.ignoresPort {s : State} {op : Op} {k : Nat} {r : Row} (hr : RowOk s op k r) : IgnoresPort (perform r) s := by
  cases hr with
  | read hf _ => exact read_ignoresPort hf
  | write _ _ _ => exact write_ignoresPort fun _ _ => rfl
  | lastWrite _ _ => exact write_ignoresPort fun _ _ => rfl
  | handle _ _ => exact write_ignoresPort fun _ _ => rfl
  | burst _ _ =>
    show IgnoresPort (memRead3 _) s
    refine awaitBus_ignoresPort fun x rest words => ?_
    split <;> rfl
  | delay _ _ => exact delay_ignoresPort

end Sys2Proof.Machine

section
open Sys2Proof Sys2Proof.Machine

/-- Settles O19: the step in RUN is the outstanding row, and that ignores the port. -/
theorem runIgnoresTheCommandPort : Obligations.RunIgnoresTheCommandPort := by
  intro s t words hp hrst h
  show step (s.setCmdIn words) = .next (t.setCmdIn words)
  rw [step_run hp hrst] at h
  rw [step_run (s := s.setCmdIn words) hp hrst, currentRow_setCmdIn]
  cases hr : currentRow s with
  | none => rw [hr] at h; cases h
  | some r =>
    rw [hr] at h
    exact (currentRow_ok hr).2.ignoresPort t words h

end
end

section
/-! Which registers the rows of an operation reach (20_memory R61, 10_state R41). -/

namespace Sys2Proof.Machine

open Sys2Proof.Params

/-- An action of `op` reads and writes registers of these two lists alone, and the burst is READ's. -/
def Reaches (reads writes : List Byte) (op : Op) : Action → Prop
  | .read a => a ∈ reads
  | .write a _ => a ∈ writes
  | .burst => op = .read
  | .delay _ => True

/-- Every row reaches registers that the block issues requests to (30_encoding R110). -/
theorem RowOk.reaches {s : State} {op : Op} {k : Nat} {r : Row} (hr : RowOk s op k r) :
    Reaches AddressMap.readAddrs AddressMap.writeAddrs op r.action := by
  cases hr with
  | read _ ha => exact ha
  | write _ ha _ => exact ha
  | lastWrite ha _ => exact ha
  | handle _ _ => exact (by decide : pwrCtrl ∈ AddressMap.writeAddrs)
  | burst hop _ => exact hop
  | delay _ _ => trivial

/-- An action stays in the column of its operation in the access table (20_memory R61). -/
abbrev InColumn (ldo : BitVec 4) (op : Op) : Action → Prop := Reaches (readsOf ldo op) (writesOf ldo op) op

section InColumn
variable {s : State}

theorem resetTable_inColumn : ∀ {k : Nat} {r : Row}, resetTable s k = some r → InColumn s.aLdo .reset r.action
  | 0, _, rfl | 1, _, rfl | 3, _, rfl | 4, _, rfl | 6, _, rfl => List.mem_singleton.mpr rfl
  | 2, _, rfl | 5, _, rfl => trivial
  | _ + 7, _, h => nomatch h

theorem powerDownTable_inColumn : ∀ {k : Nat} {r : Row}, powerDownTable s k = some r → InColumn s.aLdo .enable r.action
  | 0, _, rfl | 1, _, rfl => List.mem_singleton.mpr rfl
  | _ + 2, _, h => nomatch h

theorem powerUpTable_inColumn : ∀ {k : Nat} {r : Row}, powerUpTable s k = some r → InColumn s.aLdo .enable r.action
  | 0, _, rfl | 1, _, rfl | 3, _, rfl | 4, _, rfl | 5, _, rfl => List.mem_singleton.mpr rfl
  | 2, _, rfl => trivial
  | _ + 6, _, h => nomatch h

theorem enableTable_inColumn {k : Nat} {r : Row} (h : enableTable s k = some r) : InColumn s.aLdo .enable r.action := by
  unfold enableTable at h
  split at h
  · exact powerUpTable_inColumn h
  · exact powerDownTable_inColumn h

theorem availableTable_inColumn : ∀ {k : Nat} {r : Row}, availableTable s k = some r → InColumn s.aLdo .available r.action
  | 0, _, rfl => List.mem_singleton.mpr rfl
  | _ + 1, _, h => nomatch h

theorem readTable_inColumn : ∀ {k : Nat} {r : Row}, readTable s k = some r → InColumn s.aLdo .read r.action
  | 0, _, rfl => rfl
  | _ + 1, _, h => nomatch h

/-- SET_LDO reaches the register of `AVDDS` whatever its operand is. -/
theorem puCtrl_mem_readsOf_setLdo (ldo : BitVec 4) : puCtrl ∈ readsOf ldo .setLdo := by
  simp only [readsOf]
  split <;> decide

/-- SET_LDO reaches 0x01 for an internal level. -/
theorem ctrl1_mem_readsOf_setLdo {ldo : BitVec 4} (h : ldo ≠ encLdo .ext) : ctrl1 ∈ readsOf ldo .setLdo := by
  rw [readsOf, if_neg (show ldo ≠ 8 from h)]
  decide

/-- The columns of reads and writes agree for SET_LDO, so that one membership serves its read rows and its write rows. -/
theorem setLdoTable_inColumn : ∀ {k : Nat} {r : Row}, setLdoTable s k = some r → InColumn s.aLdo .setLdo r.action
  | 0, _, rfl => puCtrl_mem_readsOf_setLdo s.aLdo
  | 1, _, h => by
      simp only [setLdoTable] at h
      split at h <;> cases h <;> exact puCtrl_mem_readsOf_setLdo s.aLdo
  | 2, _, h | 3, _, h => by
      simp only [setLdoTable] at h
      split at h <;> cases h
      next hs => exact ctrl1_mem_readsOf_setLdo hs
  | _ + 4, _, h => nomatch h

theorem getLdoTable_inColumn : ∀ {k : Nat} {r : Row}, getLdoTable s k = some r → InColumn s.aLdo .getLdo r.action
  | 0, _, rfl => List.mem_cons_self
  | 1, _, rfl => List.mem_cons_of_mem _ (List.mem_singleton.mpr rfl)
  | _ + 2, _, h => nomatch h

theorem setGainTable_inColumn : ∀ {k : Nat} {r : Row}, setGainTable s k = some r → InColumn s.aLdo .setGain r.action
  | 0, _, rfl | 1, _, rfl => List.mem_singleton.mpr rfl
  | _ + 2, _, h => nomatch h

theorem getGainTable_inColumn : ∀ {k : Nat} {r : Row}, getGainTable s k = some r → InColumn s.aLdo .getGain r.action
  | 0, _, rfl => List.mem_singleton.mpr rfl
  | _ + 1, _, h => nomatch h

theorem setRateTable_inColumn : ∀ {k : Nat} {r : Row}, setRateTable s k = some r → InColumn s.aLdo .setRate r.action
  | 0, _, rfl | 1, _, rfl => List.mem_singleton.mpr rfl
  | _ + 2, _, h => nomatch h

theorem getRateTable_inColumn : ∀ {k : Nat} {r : Row}, getRateTable s k = some r → InColumn s.aLdo .getRate r.action
  | 0, _, rfl => List.mem_singleton.mpr rfl
  | _ + 1, _, h => nomatch h

theorem calibrateTable_inColumn : ∀ {k : Nat} {r : Row}, calibrateTable s k = some r → InColumn s.aLdo .calibrate r.action
  | 0, _, rfl | 1, _, rfl | 2, _, rfl => List.mem_singleton.mpr rfl
  | 3, _, rfl => trivial
  | _ + 4, _, h => nomatch h

/-- Every table stays in its column; NEW's is the registers that the block reaches at all. -/
theorem tableOf_inColumn {op : Op} {k : Nat} {r : Row} (h : tableOf op s k = some r) : InColumn s.aLdo op r.action := by
  cases op with
  | new => exact (newTable_ok h).reaches
  | reset => exact resetTable_inColumn h
  | enable => exact enableTable_inColumn h
  | available => exact availableTable_inColumn h
  | read => exact readTable_inColumn h
  | setLdo => exact setLdoTable_inColumn h
  | getLdo => exact getLdoTable_inColumn h
  | setGain => exact setGainTable_inColumn h
  | getGain => exact getGainTable_inColumn h
  | setRate => exact setRateTable_inColumn h
  | getRate => exact getRateTable_inColumn h
  | calibrate => exact calibrateTable_inColumn h

theorem outstanding_reaches {act : Action} (h : outstanding s = some act) :
    Reaches AddressMap.readAddrs AddressMap.writeAddrs s.seq.op act := by
  obtain ⟨r, hr, rfl⟩ := outstanding_eq_some h
  exact (currentRow_ok hr).2.reaches

theorem outstanding_inColumn {act : Action} (h : outstanding s = some act) : InColumn s.aLdo s.seq.op act := by
  obtain ⟨r, hr, rfl⟩ := outstanding_eq_some h
  rw [currentRow_run (currentRow_ok hr).1] at hr
  exact tableOf_inColumn hr

end InColumn

/-- A register that the block writes is not the revision register (10_state R41). -/
theorem ne_rev_of_mem_writeAddrs {a : Byte} (h : a ∈ AddressMap.writeAddrs) : a ≠ 0x1F := by
  rintro rfl
  exact absurd h (by decide)

end Sys2Proof.Machine

section
open Sys2Proof Sys2Proof.Machine

/-- Settles O58: what is outstanding is a row of the operation's table, and each table stays in its column. -/
theorem operationsReachOnlyTheirRegisters : Obligations.OperationsReachOnlyTheirRegisters := by
  intro s a
  refine ⟨fun h => outstanding_inColumn h,
    fun v h => ⟨outstanding_inColumn h, ne_rev_of_mem_writeAddrs (outstanding_reaches h)⟩,
    fun h => outstanding_reaches h, fun hop hldo => ⟨fun h => ?_, fun v h => ?_⟩⟩
  all_goals
    have hcol := outstanding_inColumn h
    rw [hop, hldo] at hcol
    exact absurd (show (0x01 : Byte) ∈ [(0x00 : Byte)] from hcol) (by decide)

end
end

section
/-! A word offered in IDLE is consumed, and what it decodes to is executed (20_memory R79, 30_encoding R95). -/

namespace Sys2Proof.Machine

/-- The offered word is consumed, and nothing else changes. -/
theorem takeCmd_cons {s : State} {w : CmdWord} {rest : List CmdWord} (h : s.cmdIn = w :: rest) :
    takeCmd s = { s with cmdIn := rest } := by
  rw [takeCmd, h]
  rfl

theorem runCommand_ok {w : CmdWord} {i : Instr} (h : decodeCmd w = .ok i) (s : State) :
    runCommand w s = exec i (takeCmd s) := by
  simp [runCommand, h]

end Sys2Proof.Machine

section
open Sys2Proof Sys2Proof.Machine

/-- Settles O14: in IDLE the word fetched is the one offered first. -/
theorem stepRunsTheOfferedCommand : Obligations.StepRunsTheOfferedCommand := by
  intro s w rest i hp hrst hc hd
  calc step s = runCommand w s := step_idle_cons hp hrst hc
    _ = exec i (takeCmd s) := runCommand_ok hd s
    _ = exec i { s with cmdIn := rest } := by rw [takeCmd_cons hc]

end
end

section
/-! Encoder and decoder of the two layers of words (30_encoding R91 to R110): the fields of a word, what each format's decoder
accepts, and the round trip in both directions. -/

namespace Sys2Proof

open Params

/-! ### The fields of a command word -/

/-- The opcode of the word that the encoder builds. -/
@[simp] theorem opcode_cmdWord (o : BitVec 4) (x : BitVec 12) : (cmdWord o x).extractLsb' 12 4 = o :=
  BitVec.extractLsb'_append_eq_left

/-- A field inside the operand area of the word that the encoder builds. -/
theorem field_cmdWord (o : BitVec 4) (x : BitVec 12) {lsb n : Nat} (h : lsb + n ≤ 12 := by decide) :
    (cmdWord o x).extractLsb' lsb n = x.extractLsb' lsb n :=
  BitVec.extractLsb'_append_eq_of_add_le h

/-- A word is the word of its opcode and its operand area (R91). -/
theorem cmdWord_of_fields {w : CmdWord} {o : BitVec 4} {x : BitVec 12} (ho : w.extractLsb' 12 4 = o)
    (hx : w.extractLsb' 0 12 = x) : cmdWord o x = w := by
  subst ho hx
  calc w.extractLsb' 12 4 ++ w.extractLsb' 0 12 = w.extractLsb' 0 16 :=
        BitVec.extractLsb'_append_extractLsb'_eq_extractLsb' (start₁ := 0) (len₁ := 12) rfl
    _ = w := BitVec.extractLsb'_eq_self

/-- Two neighbouring fields of a word, taken together. -/
theorem field_append {w : CmdWord} (lsb : Nat) {m n : Nat} {hi : BitVec m} {lo : BitVec n} (hhi : w.extractLsb' (lsb + n) m = hi)
    (hlo : w.extractLsb' lsb n = lo) : w.extractLsb' lsb (m + n) = hi ++ lo := by
  subst hhi hlo
  exact (BitVec.extractLsb'_append_extractLsb'_eq_extractLsb' rfl).symm

/-! ### What each format's decoder accepts (R97 to R103) -/

section guards
variable {p : Prop} [Decidable p] {d : Except Illegal Instr} {e : Illegal} {i : Instr}

/-- A check that refuses, passed. -/
theorem refuse_if_eq_ok : (if p then .error e else d) = .ok i ↔ ¬ p ∧ d = .ok i := by
  split <;> simp [*]

/-- A check that must hold, passed. -/
theorem accept_if_eq_ok : (if p then d else .error e) = .ok i ↔ p ∧ d = .ok i := by
  split <;> simp [*]

end guards

section formats
variable {w : CmdWord} {i j : Instr}

theorem decodeZ_eq_ok : decodeZ w j = .ok i ↔ w.extractLsb' 0 12 = 0 ∧ j = i := by
  simp [decodeZ, accept_if_eq_ok]

theorem decodeB_eq_ok : decodeB w = .ok i ↔ w.extractLsb' 1 11 = 0 ∧ .enable (w.getLsbD 0) = i := by
  simp [decodeB, accept_if_eq_ok]

theorem decodeL_eq_ok : decodeL w = .ok i ↔
    w.extractLsb' 4 8 = 0 ∧ ldoLegal (w.extractLsb' 0 4) = true ∧ .setLdo (w.extractLsb' 0 4) = i := by
  simp [decodeL, accept_if_eq_ok]

theorem decodeG_eq_ok : decodeG w = .ok i ↔ w.extractLsb' 3 9 = 0 ∧ .setGain (w.extractLsb' 0 3) = i := by
  simp [decodeG, gainLegal_eq, accept_if_eq_ok]

theorem decodeS_eq_ok : decodeS w = .ok i ↔
    w.extractLsb' 3 9 = 0 ∧ rateLegal (w.extractLsb' 0 3) = true ∧ .setRate (w.extractLsb' 0 3) = i := by
  simp [decodeS, accept_if_eq_ok]

theorem decodeC_eq_ok : decodeC w = .ok i ↔
    w.extractLsb' 2 10 = 0 ∧ modeLegal (w.extractLsb' 0 2) = true ∧ .calibrate (w.extractLsb' 0 2) = i := by
  simp [decodeC, accept_if_eq_ok]

theorem decodeN_eq_ok : decodeN w = .ok i ↔
    w.extractLsb' 10 2 = 0 ∧ ldoLegal (w.extractLsb' 0 4) = true ∧ rateLegal (w.extractLsb' 7 3) = true ∧
      (Instr.new (w.extractLsb' 0 4) (w.extractLsb' 4 3) (w.extractLsb' 7 3)).canon = i := by
  simp [decodeN, gainLegal_eq, refuse_if_eq_ok, accept_if_eq_ok]

end formats

/-! ### The word that a format's fields make up -/

/-- The one-bit field at bit 0. -/
theorem bit_eq_field {w : CmdWord} : w.extractLsb' 0 1 = BitVec.ofBool (w.getLsbD 0) := by
  rw [← BitVec.setWidth_eq_extractLsb' (by decide), BitVec.setWidth_one]

section encode
variable {w : CmdWord}

theorem encode_enable (ho : w.extractLsb' 12 4 = 0x3) (hz : w.extractLsb' 1 11 = 0) :
    encode (.enable (w.getLsbD 0)) = .cmd w :=
  congrArg TableWord.cmd (cmdWord_of_fields ho (field_append 0 (m := 11) (n := 1) hz bit_eq_field))

theorem encode_setLdo (ho : w.extractLsb' 12 4 = 0x6) (hz : w.extractLsb' 4 8 = 0) :
    encode (.setLdo (w.extractLsb' 0 4)) = .cmd w :=
  congrArg TableWord.cmd (cmdWord_of_fields ho (field_append 0 (m := 8) (n := 4) hz rfl))

theorem encode_setGain (ho : w.extractLsb' 12 4 = 0x8) (hz : w.extractLsb' 3 9 = 0) :
    encode (.setGain (w.extractLsb' 0 3)) = .cmd w :=
  congrArg TableWord.cmd (cmdWord_of_fields ho (field_append 0 (m := 9) (n := 3) hz rfl))

theorem encode_setRate (ho : w.extractLsb' 12 4 = 0xA) (hz : w.extractLsb' 3 9 = 0) :
    encode (.setRate (w.extractLsb' 0 3)) = .cmd w :=
  congrArg TableWord.cmd (cmdWord_of_fields ho (field_append 0 (m := 9) (n := 3) hz rfl))

theorem encode_calibrate (ho : w.extractLsb' 12 4 = 0xC) (hz : w.extractLsb' 2 10 = 0) :
    encode (.calibrate (w.extractLsb' 0 2)) = .cmd w :=
  congrArg TableWord.cmd (cmdWord_of_fields ho (field_append 0 (m := 10) (n := 2) hz rfl))

theorem encode_new (ho : w.extractLsb' 12 4 = 0x1) (hz : w.extractLsb' 10 2 = 0) :
    encode (.new (w.extractLsb' 0 4) (w.extractLsb' 4 3) (w.extractLsb' 7 3)) = .cmd w :=
  congrArg TableWord.cmd (cmdWord_of_fields ho
    (field_append 0 (m := 8) (n := 4) (field_append 4 (m := 5) (n := 3) (field_append 7 (m := 2) (n := 3) hz rfl) rfl) rfl))

theorem encode_fixed {i : Instr} {o : BitVec 4} (hi : encode i = .cmd (cmdWord o 0)) (ho : w.extractLsb' 12 4 = o)
    (hz : w.extractLsb' 0 12 = 0) : encode i = .cmd w :=
  hi.trans (congrArg TableWord.cmd (cmdWord_of_fields ho hz))

end encode

/-! ### NEW_DEFAULT, the one word of two instructions (R107, assumption log 13) -/

theorem canon_of_ne {i : Instr} (h : i ≠ .new defaultLdo defaultGain defaultRate) : i.canon = i := if_neg h

theorem canon_default : (Instr.new defaultLdo defaultGain defaultRate).canon = .newDefault := if_pos rfl

/-- NEW_DEFAULT and the NEW it stands for have one word (R107). -/
theorem encode_canon (i : Instr) : encode i.canon = encode i := by
  by_cases h : i = .new defaultLdo defaultGain defaultRate
  · subst h
    decide
  · rw [canon_of_ne h]

/-- NEW_DEFAULT and the NEW it stands for are both well formed. -/
theorem wf_canon (i : Instr) : i.canon.wf = i.wf := by
  by_cases h : i = .new defaultLdo defaultGain defaultRate
  · subst h
    decide
  · rw [canon_of_ne h]

/-! ### Request words -/

theorem packReq_unpackReq (q : ReqWord) : packReq (unpackReq q) = q := by
  simp (disch := decide) only [packReq, unpackReq, BitVec.extractLsb'_append_extractLsb'_eq_extractLsb',
    BitVec.extractLsb'_eq_self]

/-- A request word whose fields are those of a transaction is the packed word of it. -/
theorem req_of_fields {q : ReqWord} {r : BusReq} (h : unpackReq q = r) : TableWord.req (packReq r) = .req q := by
  rw [← h, packReq_unpackReq]

/-- A request word that decodes is the word of the bus instruction, whose address the block reaches. -/
theorem encode_of_decodeReq {q : ReqWord} {i : Instr} (h : decodeReq q = .ok i) : encode i = .req q ∧ i.wf = true := by
  simp only [decodeReq] at h
  split_ifs at h with _ hw ha hr ha hb <;> cases h
  · exact ⟨req_of_fields hw, ha⟩
  · exact ⟨req_of_fields hr, ha⟩
  · exact ⟨req_of_fields hb, rfl⟩

/-! ### The decoder on the words that the encoder builds -/

section words
variable (o : BitVec 4)

theorem decodeZ_word (i : Instr) : decodeZ (cmdWord o 0) i = .ok i :=
  decodeZ_eq_ok.mpr ⟨field_cmdWord o 0, rfl⟩

theorem decodeB_word (pwr : Bool) : decodeB (cmdWord o ((0 : BitVec 11) ++ BitVec.ofBool pwr)) = .ok (.enable pwr) := by
  have hbit : BitVec.ofBool ((cmdWord o ((0 : BitVec 11) ++ BitVec.ofBool pwr)).getLsbD 0) = BitVec.ofBool pwr :=
    bit_eq_field.symm.trans ((field_cmdWord o _).trans BitVec.extractLsb'_append_eq_right)
  exact decodeB_eq_ok.mpr ⟨(field_cmdWord o _).trans BitVec.extractLsb'_append_eq_left,
    congrArg Instr.enable (BitVec.ofBool_eq_iff_eq.mp hbit)⟩

theorem decodeL_word {ldo : BitVec 4} (h : ldoLegal ldo = true) :
    decodeL (cmdWord o ((0 : BitVec 8) ++ ldo)) = .ok (.setLdo ldo) := by
  have hldo : (cmdWord o ((0 : BitVec 8) ++ ldo)).extractLsb' 0 4 = ldo :=
    (field_cmdWord o _).trans BitVec.extractLsb'_append_eq_right
  exact decodeL_eq_ok.mpr ⟨(field_cmdWord o _).trans BitVec.extractLsb'_append_eq_left, by rw [hldo, h], by rw [hldo]⟩

theorem decodeG_word (gain : BitVec 3) : decodeG (cmdWord o ((0 : BitVec 9) ++ gain)) = .ok (.setGain gain) := by
  have hgain : (cmdWord o ((0 : BitVec 9) ++ gain)).extractLsb' 0 3 = gain :=
    (field_cmdWord o _).trans BitVec.extractLsb'_append_eq_right
  exact decodeG_eq_ok.mpr ⟨(field_cmdWord o _).trans BitVec.extractLsb'_append_eq_left, by rw [hgain]⟩

theorem decodeS_word {rate : BitVec 3} (h : rateLegal rate = true) :
    decodeS (cmdWord o ((0 : BitVec 9) ++ rate)) = .ok (.setRate rate) := by
  have hrate : (cmdWord o ((0 : BitVec 9) ++ rate)).extractLsb' 0 3 = rate :=
    (field_cmdWord o _).trans BitVec.extractLsb'_append_eq_right
  exact decodeS_eq_ok.mpr ⟨(field_cmdWord o _).trans BitVec.extractLsb'_append_eq_left, by rw [hrate, h], by rw [hrate]⟩

theorem decodeC_word {mode : BitVec 2} (h : modeLegal mode = true) :
    decodeC (cmdWord o ((0 : BitVec 10) ++ mode)) = .ok (.calibrate mode) := by
  have hmode : (cmdWord o ((0 : BitVec 10) ++ mode)).extractLsb' 0 2 = mode :=
    (field_cmdWord o _).trans BitVec.extractLsb'_append_eq_right
  exact decodeC_eq_ok.mpr ⟨(field_cmdWord o _).trans BitVec.extractLsb'_append_eq_left, by rw [hmode, h], by rw [hmode]⟩

/-- Format N has three fields above one another, and zeros above them. -/
theorem decodeN_word {ldo : BitVec 4} (gain : BitVec 3) {rate : BitVec 3} (hldo : ldoLegal ldo = true)
    (hrate : rateLegal rate = true) :
    decodeN (cmdWord o ((0 : BitVec 2) ++ rate ++ gain ++ ldo)) = .ok (Instr.new ldo gain rate).canon := by
  have above {lsb n : Nat} (hlsb : 4 ≤ lsb) (h : lsb + n ≤ 12) :
      (cmdWord o ((0 : BitVec 2) ++ rate ++ gain ++ ldo)).extractLsb' lsb n =
        ((0 : BitVec 2) ++ rate ++ gain).extractLsb' (lsb - 4) n :=
    (field_cmdWord o _ h).trans (BitVec.extractLsb'_append_eq_of_le hlsb)
  have hfldo : (cmdWord o ((0 : BitVec 2) ++ rate ++ gain ++ ldo)).extractLsb' 0 4 = ldo :=
    (field_cmdWord o _).trans BitVec.extractLsb'_append_eq_right
  have hfgain : (cmdWord o ((0 : BitVec 2) ++ rate ++ gain ++ ldo)).extractLsb' 4 3 = gain :=
    (above (by decide) (by decide)).trans BitVec.extractLsb'_append_eq_right
  have hfrate : (cmdWord o ((0 : BitVec 2) ++ rate ++ gain ++ ldo)).extractLsb' 7 3 = rate :=
    (above (by decide) (by decide)).trans
      ((BitVec.extractLsb'_append_eq_of_le (by decide)).trans BitVec.extractLsb'_append_eq_right)
  have hzero : (cmdWord o ((0 : BitVec 2) ++ rate ++ gain ++ ldo)).extractLsb' 10 2 = 0 :=
    (above (by decide) (by decide)).trans
      ((BitVec.extractLsb'_append_eq_of_le (by decide)).trans BitVec.extractLsb'_append_eq_left)
  exact decodeN_eq_ok.mpr ⟨hzero, by rw [hfldo, hldo], by rw [hfrate, hrate], by rw [hfldo, hfgain, hfrate]⟩

end words

/-- The word of a well-formed instruction decodes to it, or to NEW_DEFAULT. -/
theorem decode_encode {i : Instr} (h : i.wf = true) : decode (encode i) = .ok i.canon := by
  cases i with
  | new ldo gain rate =>
    obtain ⟨⟨hldo, -⟩, hrate⟩ : (ldoLegal ldo = true ∧ gainLegal gain = true) ∧ rateLegal rate = true := by
      simpa [Instr.wf] using h
    simpa [decode, encode, decodeCmd] using decodeN_word 0x1 gain hldo hrate
  | reset => simpa [decode, encode, decodeCmd, Instr.canon] using decodeZ_word 0x2 .reset
  | enable pwr => simpa [decode, encode, decodeCmd, Instr.canon] using decodeB_word 0x3 pwr
  | available => simpa [decode, encode, decodeCmd, Instr.canon] using decodeZ_word 0x4 .available
  | read => simpa [decode, encode, decodeCmd, Instr.canon] using decodeZ_word 0x5 .read
  | setLdo ldo => simpa [decode, encode, decodeCmd, Instr.canon] using decodeL_word 0x6 h
  | getLdo => simpa [decode, encode, decodeCmd, Instr.canon] using decodeZ_word 0x7 .getLdo
  | setGain gain => simpa [decode, encode, decodeCmd, Instr.canon] using decodeG_word 0x8 gain
  | getGain => simpa [decode, encode, decodeCmd, Instr.canon] using decodeZ_word 0x9 .getGain
  | setRate rate => simpa [decode, encode, decodeCmd, Instr.canon] using decodeS_word 0xA h
  | getRate => simpa [decode, encode, decodeCmd, Instr.canon] using decodeZ_word 0xB .getRate
  | calibrate mode => simpa [decode, encode, decodeCmd, Instr.canon] using decodeC_word 0xC h
  | newDefault => decide
  | busWrite addr data => exact decodeReq_write (List.contains_iff_mem.mp h) data
  | busRead1 addr => exact decodeReq_read (List.contains_iff_mem.mp h)
  | busRead3 => exact decodeReq_burst

/-! ### The rows of the opcode table (R93) -/

/-- A field that a mask keeps is a field of the match. -/
theorem field_of_mask {w mask mtch : CmdWord} (h : w &&& mask = mtch) {lsb n : Nat}
    (hm : mask.extractLsb' lsb n = BitVec.allOnes n := by decide) : w.extractLsb' lsb n = mtch.extractLsb' lsb n := by
  rw [← h, BitVec.extractLsb'_and, hm, BitVec.and_allOnes]

/-- The word of an instruction has the fixed bits of its row. -/
theorem mask_of_encode {w mask mtch : CmdWord} {i : Instr} (h : ∃ w', encode i = .cmd w' ∧ w' &&& mask = mtch)
    (hw : encode i = .cmd w) : w &&& mask = mtch := by
  obtain ⟨w', hw', hm⟩ := h
  cases hw'.symm.trans hw
  exact hm

theorem selects_iff {r : CmdRow} {w : CmdWord} : r.selects w = true ↔ w &&& r.mask = r.mtch ∧ r.cond w = true := by
  simp [CmdRow.selects]

theorem rateLegal_iff_mem {c : BitVec 3} : rateLegal c = true ↔ c.toNat ∈ [0, 1, 2, 3, 7] := by decide +revert

theorem modeLegal_iff_mem {c : BitVec 2} : modeLegal c = true ↔ c.toNat ∈ [0, 2, 3] := by decide +revert

/-- The table's condition on a `ldo` field is the legality of the operand (R99). -/
theorem ldoCond_iff {w : CmdWord} : ldoCond w = true ↔ ldoLegal (w.extractLsb' 0 4) = true := by
  rw [ldoLegal_iff, ldoCond, decide_eq_true_iff]

theorem rateCond_iff {lsb : Nat} {w : CmdWord} : rateCond lsb w = true ↔ rateLegal (w.extractLsb' lsb 3) = true := by
  rw [rateLegal_iff_mem, rateCond, List.contains_iff_mem]

theorem modeCond_iff {w : CmdWord} : modeCond w = true ↔ modeLegal (w.extractLsb' 0 2) = true := by
  rw [modeLegal_iff_mem, modeCond, List.contains_iff_mem]

/-- A word that a row selects is the word of a well-formed command of the row's operation. -/
theorem encode_of_selects {r : CmdRow} {w : CmdWord} (hr : r ∈ commandRows) (h : r.selects w = true) :
    ∃ i : Instr, i.op? = some r.op ∧ i.wf = true ∧ encode i = .cmd w := by
  obtain ⟨hm, hc⟩ := selects_iff.mp h
  simp only [commandRows, List.mem_cons, List.not_mem_nil, or_false] at hr
  rcases hr with rfl | rfl | rfl | rfl | rfl | rfl | rfl | rfl | rfl | rfl | rfl | rfl
  · obtain ⟨hldo, hrate⟩ := Bool.and_eq_true_iff.mp hc
    exact ⟨_, rfl, by simp [Instr.wf, ldoCond_iff.mp hldo, gainLegal_eq, rateCond_iff.mp hrate],
      encode_new (field_of_mask hm) (field_of_mask hm)⟩
  · exact ⟨.reset, rfl, rfl, encode_fixed rfl (field_of_mask hm) (field_of_mask hm)⟩
  · exact ⟨_, rfl, rfl, encode_enable (field_of_mask hm) (field_of_mask hm)⟩
  · exact ⟨.available, rfl, rfl, encode_fixed rfl (field_of_mask hm) (field_of_mask hm)⟩
  · exact ⟨.read, rfl, rfl, encode_fixed rfl (field_of_mask hm) (field_of_mask hm)⟩
  · exact ⟨.setLdo (w.extractLsb' 0 4), rfl, ldoCond_iff.mp hc, encode_setLdo (field_of_mask hm) (field_of_mask hm)⟩
  · exact ⟨.getLdo, rfl, rfl, encode_fixed rfl (field_of_mask hm) (field_of_mask hm)⟩
  · exact ⟨.setGain (w.extractLsb' 0 3), rfl, gainLegal_eq _, encode_setGain (field_of_mask hm) (field_of_mask hm)⟩
  · exact ⟨.getGain, rfl, rfl, encode_fixed rfl (field_of_mask hm) (field_of_mask hm)⟩
  · exact ⟨.setRate (w.extractLsb' 0 3), rfl, rateCond_iff.mp hc, encode_setRate (field_of_mask hm) (field_of_mask hm)⟩
  · exact ⟨.getRate, rfl, rfl, encode_fixed rfl (field_of_mask hm) (field_of_mask hm)⟩
  · exact ⟨.calibrate (w.extractLsb' 0 2), rfl, modeCond_iff.mp hc, encode_calibrate (field_of_mask hm) (field_of_mask hm)⟩

/-- A word that decodes is selected by the row of its operation. -/
theorem selects_of_decodeCmd {w : CmdWord} {i : Instr} (h : decodeCmd w = .ok i) :
    ∃ r ∈ commandRows, i.op? = some r.op ∧ r.selects w = true := by
  have fixed {j : Instr} {m : CmdWord} (hj : encode j = .cmd m) (hw : encode j = .cmd w) : w &&& 0xFFFF = m :=
    mask_of_encode ⟨m, hj, BitVec.and_allOnes⟩ hw
  unfold decodeCmd at h
  split at h <;> rename_i ho
  case h_1 =>
    obtain ⟨hz, hldo, hrate, rfl⟩ := decodeN_eq_ok.mp h
    have hm := mask_of_encode (Laws.EncodesItsRow.new _ _ _) (encode_new ho hz)
    simp only [op_canon]
    simpa [commandRows, Instr.op?, selects_iff, ldoCond_iff, rateCond_iff] using ⟨hm, hldo, hrate⟩
  case h_3 =>
    obtain ⟨hz, rfl⟩ := decodeB_eq_ok.mp h
    have hm := mask_of_encode (Laws.EncodesItsRow.enable _) (encode_enable ho hz)
    simpa [commandRows, Instr.op?, selects_iff] using hm
  case h_6 =>
    obtain ⟨hz, hldo, rfl⟩ := decodeL_eq_ok.mp h
    have hm := mask_of_encode (Laws.EncodesItsRow.setLdo _) (encode_setLdo ho hz)
    simpa [commandRows, Instr.op?, selects_iff, ldoCond_iff] using ⟨hm, hldo⟩
  case h_8 =>
    obtain ⟨hz, rfl⟩ := decodeG_eq_ok.mp h
    have hm := mask_of_encode (Laws.EncodesItsRow.setGain _) (encode_setGain ho hz)
    simpa [commandRows, Instr.op?, selects_iff] using hm
  case h_10 =>
    obtain ⟨hz, hrate, rfl⟩ := decodeS_eq_ok.mp h
    have hm := mask_of_encode (Laws.EncodesItsRow.setRate _) (encode_setRate ho hz)
    simpa [commandRows, Instr.op?, selects_iff, rateCond_iff] using ⟨hm, hrate⟩
  case h_12 =>
    obtain ⟨hz, hmode, rfl⟩ := decodeC_eq_ok.mp h
    have hm := mask_of_encode (Laws.EncodesItsRow.calibrate _) (encode_calibrate ho hz)
    simpa [commandRows, Instr.op?, selects_iff, modeCond_iff] using ⟨hm, hmode⟩
  case h_13 => cases h
  case h_2 =>
    obtain ⟨hz, rfl⟩ := decodeZ_eq_ok.mp h
    simpa [commandRows, Instr.op?, selects_iff] using fixed Laws.EncodesItsRow.reset (encode_fixed rfl ho hz)
  case h_4 =>
    obtain ⟨hz, rfl⟩ := decodeZ_eq_ok.mp h
    simpa [commandRows, Instr.op?, selects_iff] using fixed Laws.EncodesItsRow.available (encode_fixed rfl ho hz)
  case h_5 =>
    obtain ⟨hz, rfl⟩ := decodeZ_eq_ok.mp h
    simpa [commandRows, Instr.op?, selects_iff] using fixed Laws.EncodesItsRow.read (encode_fixed rfl ho hz)
  case h_7 =>
    obtain ⟨hz, rfl⟩ := decodeZ_eq_ok.mp h
    simpa [commandRows, Instr.op?, selects_iff] using fixed Laws.EncodesItsRow.getLdo (encode_fixed rfl ho hz)
  case h_9 =>
    obtain ⟨hz, rfl⟩ := decodeZ_eq_ok.mp h
    simpa [commandRows, Instr.op?, selects_iff] using fixed Laws.EncodesItsRow.getGain (encode_fixed rfl ho hz)
  case h_11 =>
    obtain ⟨hz, rfl⟩ := decodeZ_eq_ok.mp h
    simpa [commandRows, Instr.op?, selects_iff] using fixed Laws.EncodesItsRow.getRate (encode_fixed rfl ho hz)

/-- A word that a row selects decodes to a command of the row's operation. -/
theorem decodeCmd_of_selects {r : CmdRow} {w : CmdWord} (hr : r ∈ commandRows) (h : r.selects w = true) :
    ∃ i : Instr, i.op? = some r.op ∧ i.wf = true ∧ encode i = .cmd w ∧ decodeCmd w = .ok i := by
  obtain ⟨i, hop, hwf, hw⟩ := encode_of_selects hr h
  have hd : decode (encode i) = .ok i.canon := decode_encode hwf
  rw [hw] at hd
  exact ⟨i.canon, (op_canon i).trans hop, (wf_canon i).trans hwf, (encode_canon i).trans hw, hd⟩

/-- A command word that decodes is the word of the instruction, which is well formed. -/
theorem encode_of_decodeCmd {w : CmdWord} {i : Instr} (h : decodeCmd w = .ok i) : encode i = .cmd w ∧ i.wf = true := by
  obtain ⟨r, hr, -, hsel⟩ := selects_of_decodeCmd h
  obtain ⟨j, -, hwf, hw, hj⟩ := decodeCmd_of_selects hr hsel
  cases h.symm.trans hj
  exact ⟨hw, hwf⟩

/-- No two rows have one opcode. -/
theorem commandRows_opcodes_nodup : (commandRows.map fun r => r.mtch.extractLsb' 12 4).Nodup := by decide

/-- Every row keeps the whole opcode. -/
theorem opcode_of_selects {r : CmdRow} {w : CmdWord} (hr : r ∈ commandRows) (h : r.selects w = true) :
    r.mtch.extractLsb' 12 4 = w.extractLsb' 12 4 := by
  have hmask : ∀ r ∈ commandRows, r.mask.extractLsb' 12 4 = BitVec.allOnes 4 := by decide
  exact (field_of_mask (selects_iff.mp h).1 (hmask r hr)).symm

/-- The rows that select a word are one at most: they all have the word's opcode. -/
theorem selecting_rows_le_one (w : CmdWord) : (commandRows.filter fun r => r.selects w).length ≤ 1 := by
  have hnodup := commandRows_opcodes_nodup.sublist ((List.filter_sublist (p := fun r => r.selects w)).map _)
  have hall : (commandRows.filter fun r => r.selects w).map (fun r => r.mtch.extractLsb' 12 4) =
      List.replicate (commandRows.filter fun r => r.selects w).length (w.extractLsb' 12 4) := by
    refine List.eq_replicate_iff.mpr ⟨List.length_map _, fun c hc => ?_⟩
    obtain ⟨r, hr, rfl⟩ := List.mem_map.mp hc
    obtain ⟨hr, hsel⟩ := List.mem_filter.mp hr
    exact opcode_of_selects hr hsel
  rw [hall] at hnodup
  exact List.nodup_replicate.mp hnodup

end Sys2Proof

section
open Sys2Proof

/-- Settles O3: each format's decoder finds the fields that the encoder put in their places. -/
theorem decodeOfEncode : Obligations.DecodeOfEncode := fun _ => decode_encode

/-- Settles O4: a command word that decodes is selected by a row, so that it is the word of a command, and that decodes to itself
(O3); a request word is the packed word of its fields. -/
theorem encodeOfDecode : Obligations.EncodeOfDecode := by
  intro w i h
  cases w with
  | cmd w => exact encode_of_decodeCmd h
  | req q => exact encode_of_decodeReq h

/-- Settles O1: a word that decodes is selected by the row of its operation, a word that a row selects is the word of a command
of that row, and the rows that select a word share its opcode, which no two rows do. -/
theorem commandDecoderFollowsOpcodeTable : Obligations.CommandDecoderFollowsOpcodeTable := by
  refine ⟨fun w op => ⟨fun ⟨i, hi, hop⟩ => ?_, fun ⟨r, hr, hop, hsel⟩ => ?_⟩, selecting_rows_le_one,
    ⟨_, rfl⟩, ⟨_, rfl⟩⟩
  · obtain ⟨r, hr, hop', hsel⟩ := selects_of_decodeCmd hi
    exact ⟨r, hr, Option.some.inj (hop'.symm.trans hop), hsel⟩
  · obtain ⟨i, hi, -, -, hd⟩ := decodeCmd_of_selects hr hsel
    exact ⟨i, hd, hop ▸ hi⟩

/-- Settles O7: the packed word is its fields, appended. -/
theorem requestPackingIsInvertible : Obligations.RequestPackingIsInvertible := ⟨unpackReq_packReq, packReq_unpackReq⟩

end
end

section
/-! The words that the decoder refuses are the illegal words (30_encoding R105). -/

namespace Sys2Proof

/-! ### The operand area as a number -/

/-- A must-be-zero field from bit `k` on holds a 1 exactly when the operand area is `2 ^ k` or more. -/
theorem high_ne_zero_iff (w : CmdWord) (k m : Nat) (h : k + m = 12 := by decide) :
    w.extractLsb' k m ≠ 0 ↔ 2 ^ k ≤ (w.extractLsb' 0 12).toNat := by
  rw [ne_eq, ← BitVec.toNat_inj, BitVec.extractLsb'_toNat, BitVec.extractLsb'_toNat, Nat.shiftRight_eq_div_pow,
    ← Nat.mod_mul_right_div_self, ← pow_add, h]
  simp [Nat.div_eq_zero_iff]

/-- With zeros from bit `k` on, the field below it is the operand area. -/
theorem low_eq_area {w : CmdWord} {k m : Nat} (hz : w.extractLsb' k m = 0) (h : k + m = 12 := by decide) :
    (w.extractLsb' 0 k).toNat = (w.extractLsb' 0 12).toNat := by
  have hlt : ¬ 2 ^ k ≤ (w.extractLsb' 0 12).toNat := fun hle => (high_ne_zero_iff w k m h).mpr hle hz
  have hk : 2 ^ k ∣ 2 ^ 12 := Nat.pow_dvd_pow 2 (by omega)
  rw [BitVec.extractLsb'_toNat, BitVec.extractLsb'_toNat] at *
  rw [← Nat.mod_mod_of_dvd _ hk]
  exact Nat.mod_eq_of_lt (not_le.mp hlt)

/-! ### The illegal operand codes as numbers -/

theorem ldoIllegal_iff {c : BitVec 4} : ldoLegal c = false ↔ 9 ≤ c.toNat := by decide +revert

theorem rateIllegal_iff {c : BitVec 3} : rateLegal c = false ↔ c.toNat ∈ [4, 5, 6] := by decide +revert

theorem modeIllegal_iff {c : BitVec 2} : modeLegal c = false ↔ c.toNat = 1 := by decide +revert

/-! ### What each format's decoder refuses -/

/-- The decoder's verdict is a refusal. -/
def Refused (d : Except Illegal Instr) : Prop := ∃ r, d = .error r

theorem refused_iff {d : Except Illegal Instr} : Refused d ↔ ¬ ∃ i, d = .ok i := by
  cases d <;> simp [Refused]

section refused
variable {w : CmdWord}

theorem refused_decodeZ {i : Instr} : Refused (decodeZ w i) ↔ (w.extractLsb' 0 12).toNat ≠ 0 := by
  simp [refused_iff, decodeZ_eq_ok, ← BitVec.toNat_inj]

theorem refused_decodeB : Refused (decodeB w) ↔ 2 ^ 1 ≤ (w.extractLsb' 0 12).toNat := by
  rw [← high_ne_zero_iff w 1 11]
  simp [refused_iff, decodeB_eq_ok]

theorem refused_decodeL : Refused (decodeL w) ↔ 2 ^ 4 ≤ (w.extractLsb' 0 12).toNat ∨ 9 ≤ (w.extractLsb' 0 4).toNat := by
  rw [← high_ne_zero_iff w 4 8, ← ldoIllegal_iff]
  simp [refused_iff, decodeL_eq_ok, ← imp_iff_not_or]

theorem refused_decodeG : Refused (decodeG w) ↔ 2 ^ 3 ≤ (w.extractLsb' 0 12).toNat := by
  rw [← high_ne_zero_iff w 3 9]
  simp [refused_iff, decodeG_eq_ok]

/-- With zeros above it, the `rate` field is the operand area. -/
theorem refused_decodeS :
    Refused (decodeS w) ↔ 2 ^ 3 ≤ (w.extractLsb' 0 12).toNat ∨ (w.extractLsb' 0 12).toNat ∈ [4, 5, 6] := by
  have hrate (hz : w.extractLsb' 3 9 = 0) :
      rateLegal (w.extractLsb' 0 3) = false ↔ (w.extractLsb' 0 12).toNat ∈ [4, 5, 6] := by
    rw [rateIllegal_iff, low_eq_area hz]
  rw [← high_ne_zero_iff w 3 9, ne_eq, ← imp_iff_not_or, ← imp_congr_right hrate]
  simp [refused_iff, decodeS_eq_ok]

/-- With zeros above it, the `mode` field is the operand area. -/
theorem refused_decodeC :
    Refused (decodeC w) ↔ 2 ^ 2 ≤ (w.extractLsb' 0 12).toNat ∨ (w.extractLsb' 0 12).toNat = 1 := by
  have hmode (hz : w.extractLsb' 2 10 = 0) :
      modeLegal (w.extractLsb' 0 2) = false ↔ (w.extractLsb' 0 12).toNat = 1 := by
    rw [modeIllegal_iff, low_eq_area hz]
  rw [← high_ne_zero_iff w 2 10, ne_eq, ← imp_iff_not_or, ← imp_congr_right hmode]
  simp [refused_iff, decodeC_eq_ok]

theorem refused_decodeN : Refused (decodeN w) ↔
    2 ^ 10 ≤ (w.extractLsb' 0 12).toNat ∨ 9 ≤ (w.extractLsb' 0 4).toNat ∨ (w.extractLsb' 7 3).toNat ∈ [4, 5, 6] := by
  rw [← high_ne_zero_iff w 10 2, ← ldoIllegal_iff, ← rateIllegal_iff]
  simp [refused_iff, decodeN_eq_ok, or_iff_not_imp_left]

end refused

/-- The decoder refuses exactly the illegal words: under each opcode, what its format refuses. -/
theorem refused_decodeCmd_iff (w : CmdWord) : Refused (decodeCmd w) ↔ Machine.IllegalWord w := by
  unfold decodeCmd
  split <;> rename_i ho
  case h_13 =>
    have hres : (w.extractLsb' 12 4).toNat ∈ [0x0, 0xD, 0xE, 0xF] := by
      generalize w.extractLsb' 12 4 = opc at *
      decide +revert
    have hill : Machine.IllegalWord w := by
      simp only [Machine.IllegalWord]
      simp at hres
      tauto
    exact iff_of_true ⟨_, rfl⟩ hill
  all_goals
    simp only [refused_decodeN, refused_decodeZ, refused_decodeB, refused_decodeL, refused_decodeG, refused_decodeS,
      refused_decodeC, Machine.IllegalWord, ho]
    simp

end Sys2Proof

namespace Sys2Proof.Machine

/-- A refusal of the word offered consumes it and answers (REFUSED, 0), with no other effect. -/
theorem refuse_takeCmd {s : State} {w : CmdWord} {rest : List CmdWord} (h : s.cmdIn = w :: rest) :
    refuse (takeCmd s) = { s with cmdIn := rest, trace := .rsp .refused 0 :: s.trace } := by
  rw [takeCmd_cons h]
  rfl

/-- A legal word in IDLE is accepted or refused by its command. -/
theorem step_legal {s : State} {w : CmdWord} {rest : List CmdWord} {i : Instr} {op : Op} (hp : s.phase = .idle)
    (hrst : s.rst = false) (hc : s.cmdIn = w :: rest) (hd : decodeCmd w = .ok i) (hop : i.op? = some op) :
    step s = .next (if op = .new ∨ s.hvalid = true then accepted i op (takeCmd s) else refuse (takeCmd s)) := by
  obtain ⟨-, hwf⟩ := encode_of_decodeCmd hd
  rw [step_idle_cons hp hrst hc, runCommand_legal hd hop hp]
  simp [acceptable, hwf]

end Sys2Proof.Machine

section
open Sys2Proof Sys2Proof.Machine

/-- Settles O5: the decoder refuses exactly the illegal words, and what it refuses the idle block refuses. -/
theorem illegalWordsAreRefused : Obligations.IllegalWordsAreRefused := by
  refine ⟨refused_decodeCmd_iff, fun s w rest hp hrst hc hill => ?_⟩
  obtain ⟨r, hr⟩ := (refused_decodeCmd_iff w).mpr hill
  rw [step_idle_cons hp hrst hc, runCommand_illegal hr, refuse_takeCmd hc]

/-- Settles O23: a word that decodes is well formed, so that the handle alone decides. -/
theorem noHandleMeansRefused : Obligations.NoHandleMeansRefused := by
  intro s w rest i op hp hrst hc hd hop
  rw [step_legal hp hrst hc hd hop]
  refine ⟨fun hnew hh => ?_, fun hnew => ?_⟩
  · rw [if_neg (by simp [hnew, hh]), refuse_takeCmd hc]
  · rw [if_pos (.inl hnew)]
    subst hnew
    exact ⟨_, rfl, accepted_atRow _ _ _, rfl, by simp⟩

end
end

section
/-! An accepted word writes the latches of its format (30_encoding R97 to R103). -/

namespace Sys2Proof.Machine

open Params

/-- NEW_DEFAULT writes the latches of the NEW it stands for. -/
theorem latchOf_canon (i : Instr) : latchOf i.canon = latchOf i := by
  by_cases h : i = .new defaultLdo defaultGain defaultRate
  · rw [h, canon_default]
    rfl
  · rw [canon_of_ne h]

theorem accepted_canon (i : Instr) (op : Op) (s : State) : accepted i.canon op s = accepted i op s := by
  rw [accepted, latchOf_canon, accepted]

/-- The word of a well-formed command, offered to an idle block with a handle, starts the command's operation. -/
theorem step_accepts {s : State} {w : CmdWord} {rest : List CmdWord} {i : Instr} {op : Op} (hp : s.phase = .idle)
    (hrst : s.rst = false) (hh : s.hvalid = true) (hc : s.cmdIn = w :: rest) (hw : encode i = .cmd w) (hwf : i.wf = true)
    (hop : i.op? = some op) : step s = .next (accepted i op { s with cmdIn := rest }) := by
  have hd : decode (encode i) = .ok i.canon := decode_encode hwf
  rw [hw] at hd
  rw [step_legal hp hrst hc hd ((op_canon i).trans hop), if_pos (.inr hh), accepted_canon, takeCmd_cons hc]

end Sys2Proof.Machine

section
open Sys2Proof Sys2Proof.Machine

/-- Settles O2: the fields of a word in a row's pattern make up the word of a command, and its acceptance writes them. -/
theorem acceptedWordsLatchTheirFields : Obligations.AcceptedWordsLatchTheirFields := by
  intro s w rest hp hrst hh hc
  have new {i : Instr} (hw : encode i = .cmd w) (hwf : i.wf = true) (hop : i.op? = some .new) :
      step s = .next (accepted i .new { s with cmdIn := rest }) :=
    step_accepts hp hrst hh hc hw hwf hop
  have other {i : Instr} {op : Op} (hw : encode i = .cmd w) (hwf : i.wf = true) (hop : i.op? = some op) (hnew : op ≠ .new) :
      step s = .next ((latchOf i { s with cmdIn := rest }).start op) :=
    (step_accepts hp hrst hh hc hw hwf hop).trans (congrArg _ (accepted_of_handle hnew hh))
  refine ⟨fun h => ?_, fun h => ?_, fun h => ?_, fun h => ?_, fun h => ?_, fun h => ?_, fun h => ?_, fun h hldo => ?_,
    fun h => ?_, fun h hrate => ?_, fun h hmode => ?_, fun h hldo hrate => ?_⟩
  · exact other (i := .reset) (h ▸ rfl) rfl rfl nofun
  · exact other (i := .available) (h ▸ rfl) rfl rfl nofun
  · exact other (i := .read) (h ▸ rfl) rfl rfl nofun
  · exact other (i := .getLdo) (h ▸ rfl) rfl rfl nofun
  · exact other (i := .getGain) (h ▸ rfl) rfl rfl nofun
  · exact other (i := .getRate) (h ▸ rfl) rfl rfl nofun
  · exact other (encode_enable (field_of_mask h) (field_of_mask h)) rfl rfl nofun
  · exact other (encode_setLdo (field_of_mask h) (field_of_mask h)) ((ldoLegal_iff _).mpr hldo) rfl nofun
  · exact other (encode_setGain (field_of_mask h) (field_of_mask h)) (gainLegal_eq _) rfl nofun
  · exact other (encode_setRate (field_of_mask h) (field_of_mask h)) (rateLegal_of_mem hrate) rfl nofun
  · exact other (encode_calibrate (field_of_mask h) (field_of_mask h)) (modeLegal_of_mem hmode) rfl nofun
  · exact new (encode_new (field_of_mask h) (field_of_mask h))
      (by simp [Instr.wf, (ldoLegal_iff _).mpr hldo, gainLegal_eq, rateLegal_of_mem hrate]) rfl

end
end

section
/-! The request words that the block issues (30_encoding R110). -/

namespace Sys2Proof.Machine

open Params

/-- The addresses of the single reads are among the eight that the block reaches (20_memory R61). -/
theorem readAddrs_mem {a : Byte} (h : a ∈ AddressMap.readAddrs) :
    a.toNat ∈ [0x00, 0x01, 0x02, 0x12, 0x15, 0x1B, 0x1C, 0x1F] := by
  have hall : ∀ a ∈ AddressMap.readAddrs, a.toNat ∈ [0x00, 0x01, 0x02, 0x12, 0x15, 0x1B, 0x1C, 0x1F] := by decide
  exact hall a h

/-- A register that the block writes is one that it reads. -/
theorem writeAddrs_subset {a : Byte} (h : a ∈ AddressMap.writeAddrs) : a ∈ AddressMap.readAddrs := by
  have hall : ∀ a ∈ AddressMap.writeAddrs, a ∈ AddressMap.readAddrs := by decide
  exact hall a h

theorem writeReq_pattern (a v : Byte) : packReq (writeReq a v) &&& 0xFFC0003 = 0x2A80000 := by
  obtain ⟨q, hq, hm⟩ := Laws.EncodesItsRow.busWrite a v
  cases hq
  exact hm

theorem readReq_pattern (a : Byte) : packReq (readReq a) &&& 0xFFC03FF = 0xAA40001 := by
  obtain ⟨q, hq, hm⟩ := Laws.EncodesItsRow.busRead1 a
  cases hq
  exact hm

end Sys2Proof.Machine

section
open Sys2Proof Sys2Proof.Machine

/-- Settles O8, by cases on the outstanding action: the fields of its packed word are the fields it was packed from. -/
theorem issuedRequestsAreTheThree : Obligations.IssuedRequestsAreTheThree := by
  intro s act q hact hq
  have hreach := outstanding_reaches hact
  cases act with
  | read a =>
    cases hq
    rw [unpackReq_packReq]
    exact ⟨rfl, readAddrs_mem hreach, .inr (.inl ⟨a, rfl, readReq_pattern a, rfl⟩)⟩
  | write a v =>
    cases hq
    rw [unpackReq_packReq]
    exact ⟨rfl, readAddrs_mem (writeAddrs_subset hreach), .inl ⟨a, v, rfl, writeReq_pattern a v, rfl, rfl⟩⟩
  | burst =>
    cases hq
    rw [unpackReq_packReq]
    exact ⟨rfl, by decide, .inr (.inr ⟨rfl, by decide⟩)⟩
  | delay ms => cases hq

end
end

section
/-! One response for each consumed word (30_encoding R112): what a step puts on the response port. -/

namespace Sys2Proof.Machine

open Codec

/-! ### A row carried out -/

/-- From `s` to `u` nothing goes to the response port, and the phase stays. -/
def Silent (s u : State) : Prop := u.phase = s.phase ∧ portWords u.trace = portWords s.trace

/-- From `s`, in RUN, to `t`: the operation goes on with no response, or ends with one. -/
def AnswersAtEnd (s t : State) : Prop :=
  (t.phase = .run ∧ portWords t.trace = portWords s.trace) ∨
  (t.phase = .idle ∧ (portWords t.trace).length = (portWords s.trace).length + 1)

section silent
variable {s u : State}

theorem Silent.refl (s : State) : Silent s s := ⟨rfl, rfl⟩

theorem Silent.setBusIn (h : Silent s u) (l : List BusIn) : Silent s (u.setBusIn l) := h

theorem Silent.setDlyIn (h : Silent s u) (l : List DlyIn) : Silent s (u.setDlyIn l) := h

theorem Silent.load (h : Silent s u) (v : Byte) : Silent s (u.load v) := h

theorem Silent.setAcc (h : Silent s u) (v : Data) : Silent s (u.setAcc v) := h

theorem Silent.setHandle (h : Silent s u) (b : Bool) : Silent s (u.setHandle b) := h

/-- An action's item is no response. -/
theorem Silent.push (h : Silent s u) {i : TraceItem} (hi : portWord i = none) : Silent s (u.push i) := by
  obtain ⟨hphase, hport⟩ := h
  exact ⟨hphase, (portWords_action hi u.trace).trans hport⟩

theorem Silent.answers (h : Silent s u) (hp : s.phase = .run) : AnswersAtEnd s u := by
  obtain ⟨hphase, hport⟩ := h
  exact .inl ⟨hphase.trans hp, hport⟩

/-- Going on to another row delivers nothing. -/
theorem row_answers (hp : s.phase = .run) (h : Silent s u) (k : Nat) : AnswersAtEnd s (commit (.row k u)) :=
  Silent.answers h hp

/-- A response ends the operation. -/
theorem end_answers (h : Silent s u) (st : Status) (d : Data) : AnswersAtEnd s ((deliver st d u).setPhase .idle) := by
  obtain ⟨-, hport⟩ := h
  exact .inr ⟨rfl, congrArg (fun l => l.length + 1) hport⟩

theorem verdict_answers (hp : s.phase = .run) (h : Silent s u) (c : Verdict) : AnswersAtEnd s (commit (c.on u)) := by
  cases c with
  | goto k b => exact row_answers hp (h.load b) k
  | done v => exact end_answers h .ok v
  | fail e => exact end_answers h (errStatus e) (errData e)

end silent

section rows
variable {s t : State}

theorem awaitBus_answers {f : BusAnswer → State → State} (hp : s.phase = .run) (h : awaitBus f s = .next t)
    (hf : ∀ x u, Silent s u → AnswersAtEnd s (f x u)) : AnswersAtEnd s t := by
  have hs : Silent s s := .refl s
  obtain ⟨-, rfl⟩ | ⟨x, rest, -, rfl⟩ | ⟨x, rest, -, rfl⟩ := awaitBus_cases h
  · exact hs.answers hp
  · exact (hs.setBusIn rest).answers hp
  · exact hf x _ (hs.setBusIn rest)

theorem read_answers {op : Op} {a : Byte} {f : State → Next} (hp : s.phase = .run) (hf : ReadOk s op f)
    (h : perform ⟨.read a, f⟩ s = .next t) : AnswersAtEnd s t := by
  refine awaitBus_answers hp (show memRead1 a f s = _ from h) fun x u hu => ?_
  split
  · obtain ⟨c, -, hc, -⟩ := hf ((u.push (.rd a x.rb0)).load x.rb0) _ (.refl op _) rfl
    rw [hc]
    exact verdict_answers hp ((hu.push rfl).load x.rb0) c
  · exact end_answers (hu.push rfl) _ _

theorem write_answers {a v : Byte} {f : State → Next} (hp : s.phase = .run) (h : perform ⟨.write a v, f⟩ s = .next t)
    (hf : ∀ u, Silent s u → AnswersAtEnd s (commit (f u))) : AnswersAtEnd s t := by
  refine awaitBus_answers hp (show memWrite1 a v f s = _ from h) fun x u hu => ?_
  split
  · exact hf _ (hu.push rfl)
  · exact end_answers (hu.push rfl) _ _

theorem burst_answers (hp : s.phase = .run)
    (h : perform ⟨.burst, fun x => .ret (sext24 x.acc) (x.setAcc (sext24 x.acc))⟩ s = .next t) : AnswersAtEnd s t := by
  refine awaitBus_answers hp (show memRead3 _ s = _ from h) fun x u hu => ?_
  split
  · exact end_answers (((hu.push rfl).setAcc _).setAcc _) .ok _
  · exact end_answers (hu.push rfl) _ _

theorem delay_answers {ms : BitVec 10} {k : Nat} (hp : s.phase = .run) (h : perform (delayRow ms k) s = .next t) :
    AnswersAtEnd s t := by
  have hs : Silent s s := .refl s
  obtain ⟨-, rfl⟩ | ⟨rest, -, rfl⟩ | ⟨rest, -, rfl⟩ := delayFor_cases h
  · exact hs.answers hp
  · exact (hs.setDlyIn rest).answers hp
  · exact row_answers hp ((hs.setDlyIn rest).push rfl) k

/-- Every kind of row delivers a response exactly when it ends the operation. -/
theorem RowOk.answers {op : Op} {k : Nat} {r : Row} (hr : RowOk s op k r) (hp : s.phase = .run)
    (h : perform r s = .next t) : AnswersAtEnd s t := by
  cases hr with
  | read hf _ => exact read_answers hp hf h
  | write _ _ _ => exact write_answers hp h fun _ hu => row_answers hp hu _
  | lastWrite _ _ => exact write_answers hp h fun _ hu => end_answers hu .ok 0
  | handle _ _ => exact write_answers hp h fun _ hu => end_answers (hu.setHandle true) .ok 0
  | burst _ _ => exact burst_answers hp h
  | delay _ _ => exact delay_answers hp h

theorem step_run_answers (hp : s.phase = .run) (hrst : s.rst = false) (h : step s = .next t) : AnswersAtEnd s t := by
  rw [step_run hp hrst] at h
  cases hr : currentRow s with
  | none => rw [hr] at h; cases h
  | some r =>
    rw [hr] at h
    exact (currentRow_ok hr).2.answers hp h

end rows

/-! ### A word taken in IDLE -/

/-- A word offered in IDLE is consumed: refused, or accepted. -/
theorem step_idle_takes {s t : State} {w : CmdWord} {rest : List CmdWord} (hp : s.phase = .idle) (hrst : s.rst = false)
    (hc : s.cmdIn = w :: rest) (h : step s = .next t) :
    t = refuse (takeCmd s) ∨ ∃ i op, t = accepted i op (takeCmd s) := by
  cases hd : decodeCmd w with
  | error e =>
    rw [step_idle_cons hp hrst hc, runCommand_illegal hd] at h
    cases h
    exact .inl rfl
  | ok i =>
    obtain ⟨op, hop⟩ := op_of_decodeCmd hd
    rw [step_legal hp hrst hc hd hop] at h
    cases h
    split
    · exact .inr ⟨i, op, rfl⟩
    · exact .inl rfl

end Sys2Proof.Machine

section
open Sys2Proof Sys2Proof.Machine

/-- Settles O41: block reset and waiting deliver nothing, a word in IDLE is refused or starts an operation, and a row in RUN
answers exactly when it ends the operation. -/
theorem oneResponsePerConsumedWord : Obligations.OneResponsePerConsumedWord := by
  intro s t h
  refine ⟨fun hrst => ?_, fun hrst hp hc => ?_, fun hrst hp hc => ?_, fun hrst hp => step_run_answers hp hrst h⟩
  · rw [step_of_rst hrst] at h
    cases h
    rfl
  · rw [step_idle_nil hp hrst hc] at h
    cases h
    rfl
  · obtain ⟨w, rest, hc⟩ := List.exists_cons_of_ne_nil hc
    obtain rfl | ⟨i, op, rfl⟩ := step_idle_takes hp hrst hc h
    · exact ⟨rfl, .inr ⟨hp, rfl, rfl⟩⟩
    · exact ⟨by simp, .inl ⟨rfl, by simp⟩⟩

end
end

section
/-! Words written out: the samples of the vectors, and the assembler's names (30_encoding R115). -/

namespace Sys2Proof.Assembler

open Params Codec

/-! ### The name of an operand is read back as its code -/

theorem ldoOf_ldoName (l : Ldo) : ldoOf (ldoName l) = some (encLdo l) := by cases l <;> decide

theorem gainOf_gainName (g : Gain) : gainOf (gainName g) = some (encGain g) := by cases g <;> decide

theorem rateOf_rateName (r : Rate) : rateOf (rateName r) = some (encRate r) := by cases r <;> decide

theorem modeOf_modeName (m : CalMode) : modeOf (modeName m) = some (encCalMode m) := by cases m <;> decide

/-! ### A legal code is the code of a member -/

theorem member_of_ldoLegal {c : BitVec 4} (h : ldoLegal c = true) : ∃ l, decLdo c = some l ∧ encLdo l = c := by
  obtain ⟨l, hl⟩ := Option.isSome_iff_exists.mp h
  exact ⟨l, hl, eq_of_beq (List.find?_some hl :)⟩

theorem member_of_gainLegal {c : BitVec 3} (h : gainLegal c = true) : ∃ g, decGain c = some g ∧ encGain g = c := by
  obtain ⟨g, hg⟩ := Option.isSome_iff_exists.mp h
  exact ⟨g, hg, eq_of_beq (List.find?_some hg :)⟩

theorem member_of_rateLegal {c : BitVec 3} (h : rateLegal c = true) : ∃ r, decRate c = some r ∧ encRate r = c := by
  obtain ⟨r, hr⟩ := Option.isSome_iff_exists.mp h
  exact ⟨r, hr, eq_of_beq (List.find?_some hr :)⟩

theorem member_of_modeLegal {c : BitVec 2} (h : modeLegal c = true) : ∃ m, decCalMode c = some m ∧ encCalMode m = c := by
  obtain ⟨m, hm⟩ := Option.isSome_iff_exists.mp h
  exact ⟨m, hm, eq_of_beq (List.find?_some hm :)⟩

end Sys2Proof.Assembler

section
open Sys2Proof Sys2Proof.Machine Sys2Proof.Assembler

/-- Settles O6: each word, decoded. -/
theorem sampleWordsDecode : Obligations.SampleWordsDecode := by
  refine ⟨?_, ?_, ?_, ?_, ?_, ?_, ?_, ?_, ?_, ?_⟩ <;> decide

/-- Settles O9, by cases on the command: its operands are members of their enumerations, and a member's name is read back as its
code. -/
theorem assemblerNamesRoundTrip : Obligations.AssemblerNamesRoundTrip := by
  intro i hop hwf
  cases i with
  | new ldo gain rate =>
    obtain ⟨⟨hldo, hgain⟩, hrate⟩ : (ldoLegal ldo = true ∧ gainLegal gain = true) ∧ rateLegal rate = true := by
      simpa [Instr.wf] using hwf
    obtain ⟨l, hl, rfl⟩ := member_of_ldoLegal hldo
    obtain ⟨g, hg, rfl⟩ := member_of_gainLegal hgain
    obtain ⟨r, hr, rfl⟩ := member_of_rateLegal hrate
    simp [tokens, hl, hg, hr, assemble, ldoOf_ldoName, gainOf_gainName, rateOf_rateName]
  | setLdo ldo =>
    obtain ⟨l, hl, rfl⟩ := member_of_ldoLegal hwf
    simp [tokens, hl, assemble, ldoOf_ldoName]
  | setGain gain =>
    obtain ⟨g, hg, rfl⟩ := member_of_gainLegal hwf
    simp [tokens, hg, assemble, gainOf_gainName]
  | setRate rate =>
    obtain ⟨r, hr, rfl⟩ := member_of_rateLegal hwf
    simp [tokens, hr, assemble, rateOf_rateName]
  | calibrate mode =>
    obtain ⟨m, hm, rfl⟩ := member_of_modeLegal hwf
    simp [tokens, hm, assemble, modeOf_modeName]
  | enable pwr => cases pwr <;> rfl
  | busWrite _ _ | busRead1 _ | busRead3 => exact absurd rfl hop
  | reset | available | read | getLdo | getGain | getRate | newDefault => rfl

end
end

section
/-! The five laws of field access (40_codec R132), each read off the bits: an insertion writes the bits of the field's mask and
no other, and an extraction reads those bits and no other. -/

namespace Sys2Proof.Codec

open Params

/-! ### The bits of a field -/

theorem getLsbD_mask (F : BitField) (i : Nat) : (mask F).getLsbD i = decide (F.lsb ≤ i ∧ i < F.lsb + F.width) := by
  have hfits := F.fits
  rw [mask, BitVec.getLsbD_shiftLeft, BitVec.getLsbD_setWidth, BitVec.getLsbD_allOnes]
  grind

theorem getLsbD_mask_of_lt (F : BitField) {i : Nat} (hi : i < F.width) : (mask F).getLsbD (F.lsb + i) = true := by
  rw [getLsbD_mask, decide_eq_true_eq]
  omega

theorem getLsbD_extract (b : Byte) (F : BitField) (i : Nat) :
    (extract b F).getLsbD i = (decide (i < F.width) && b.getLsbD (F.lsb + i)) := by
  simp [extract]

/-- An inserted value, moved to its place, has its bits inside the mask. -/
theorem getLsbD_placed (F : BitField) (v : BitVec F.width) (i : Nat) :
    (v.setWidth 8 <<< F.lsb).getLsbD i = ((mask F).getLsbD i && v.getLsbD (i - F.lsb)) := by
  have hfits := F.fits
  have hv : v.getLsbD (i - F.lsb) = true → i - F.lsb < F.width := BitVec.lt_of_getLsbD
  rw [BitVec.getLsbD_shiftLeft, BitVec.getLsbD_setWidth, getLsbD_mask]
  grind

theorem getLsbD_insert (b : Byte) (F : BitField) (v : BitVec F.width) (i : Nat) :
    (insert b F v).getLsbD i = if (mask F).getLsbD i then v.getLsbD (i - F.lsb) else b.getLsbD i := by
  have hb : b.getLsbD i = true → i < 8 := BitVec.lt_of_getLsbD
  rw [insert, BitVec.getLsbD_or, getLsbD_placed]
  split
  next h => simp [h]
  next h => simpa [h] using hb

/-- Disjoint masks have no bit in common. -/
theorem getLsbD_of_disjoint {m n : Byte} (h : m &&& n = 0) {i : Nat} (hi : m.getLsbD i = true) : n.getLsbD i = false := by
  have hbit := congrArg (BitVec.getLsbD · i) h
  simpa [hi] using hbit

/-! ### The laws -/

@[simp] theorem extract_insert_self (b : Byte) (F : BitField) (v : BitVec F.width) : extract (insert b F v) F = v := by
  refine BitVec.eq_of_getLsbD_eq fun i hi => ?_
  rw [getLsbD_extract, getLsbD_insert, if_pos (getLsbD_mask_of_lt F hi), Nat.add_sub_cancel_left]
  simp [hi]

/-- Bits outside the field pass from the existing byte. -/
theorem insert_and_of_disjoint (b : Byte) {F : BitField} (v : BitVec F.width) {m : Byte} (h : mask F &&& m = 0) :
    insert b F v &&& m = b &&& m := by
  refine BitVec.eq_of_getLsbD_eq fun i _ => ?_
  rw [BitVec.getLsbD_and, BitVec.getLsbD_and, getLsbD_insert]
  split
  next hF => rw [getLsbD_of_disjoint h hF, Bool.and_false, Bool.and_false]
  next => rfl

/-- An extraction reads the bits of the mask only. -/
theorem extract_congr {b c : Byte} {F : BitField} (h : b &&& mask F = c &&& mask F) : extract b F = extract c F := by
  refine BitVec.eq_of_getLsbD_eq fun i hi => ?_
  have hbit := congrArg (BitVec.getLsbD · (F.lsb + i)) h
  simp only [BitVec.getLsbD_and, getLsbD_mask_of_lt F hi, Bool.and_true] at hbit
  rw [getLsbD_extract, getLsbD_extract, hbit]

@[simp] theorem insert_extract (b : Byte) (F : BitField) : insert b F (extract b F) = b := by
  refine BitVec.eq_of_getLsbD_eq fun i _ => ?_
  rw [getLsbD_insert]
  split
  next h =>
    obtain ⟨hlo, hhi⟩ := of_decide_eq_true ((getLsbD_mask F i).symm.trans h)
    rw [getLsbD_extract, Nat.add_sub_cancel' hlo, decide_eq_true (by omega), Bool.true_and]
  next => rfl

theorem insert_insert_self (b : Byte) (F : BitField) (v v' : BitVec F.width) :
    insert (insert b F v) F v' = insert b F v' := by
  refine BitVec.eq_of_getLsbD_eq fun i _ => ?_
  simp only [getLsbD_insert]
  split <;> rfl

theorem extract_insert_of_disjoint (b : Byte) {F G : BitField} (u : BitVec G.width) (h : mask G &&& mask F = 0) :
    extract (insert b G u) F = extract b F :=
  extract_congr (insert_and_of_disjoint b u h)

theorem insert_comm_of_disjoint (b : Byte) {F G : BitField} (v : BitVec F.width) (u : BitVec G.width)
    (h : mask F &&& mask G = 0) : insert (insert b F v) G u = insert (insert b G u) F v := by
  refine BitVec.eq_of_getLsbD_eq fun i _ => ?_
  simp only [getLsbD_insert]
  cases hF : (mask F).getLsbD i
  case false => rfl
  case true => rw [getLsbD_of_disjoint h hF]; rfl

end Sys2Proof.Codec

section
open Sys2Proof

/-- Settles O10: each law holds bit by bit, and the condition that the two fields are of one register is not needed. -/
theorem fieldAccessLaws : Obligations.FieldAccessLaws := by
  intro b F G v v' u
  refine ⟨Codec.extract_insert_self b F v, Codec.insert_and_of_disjoint b v (by simp), Codec.insert_extract b F,
    Codec.insert_insert_self b F v v', fun _ h => ⟨Codec.insert_comm_of_disjoint b v u h, ?_⟩⟩
  exact Codec.extract_insert_of_disjoint b u (by rwa [BitVec.and_comm])

end
end

section
/-! The seven register layouts (40_codec R144): each encoding inserts disjoint fields, so that no insertion disturbs the field of
another, nor a bit that has no name. -/

namespace Sys2Proof.Layouts

open Codec Params

/-! ### Decoding what was encoded

The positions of the fields are unfolded, so that the masks of any two fields of a layout are seen to be disjoint. -/

theorem decode_encode_puCtrl (r : PuCtrl) (b : Byte) : decodePuCtrl (encodePuCtrl r b) = r := by
  simp (disch := decide) only [fieldPos, decodePuCtrl, encodePuCtrl, extract_insert_self, extract_insert_of_disjoint]

theorem decode_encode_ctrl1 (r : Ctrl1) (b : Byte) : decodeCtrl1 (encodeCtrl1 r b) = r := by
  simp (disch := decide) only [fieldPos, decodeCtrl1, encodeCtrl1, extract_insert_self, extract_insert_of_disjoint]

theorem decode_encode_ctrl2 (r : Ctrl2) (b : Byte) : decodeCtrl2 (encodeCtrl2 r b) = r := by
  simp (disch := decide) only [fieldPos, decodeCtrl2, encodeCtrl2, extract_insert_self, extract_insert_of_disjoint]

theorem decode_encode_adcReg (r : AdcReg) (b : Byte) : decodeAdcReg (encodeAdcReg r b) = r := by
  simp (disch := decide) only [fieldPos, decodeAdcReg, encodeAdcReg, extract_insert_self, extract_insert_of_disjoint]

theorem decode_encode_pga (r : Pga) (b : Byte) : decodePga (encodePga r b) = r := by
  simp (disch := decide) only [fieldPos, decodePga, encodePga, extract_insert_self, extract_insert_of_disjoint]

theorem decode_encode_pwrCtrl (r : PwrCtrl) (b : Byte) : decodePwrCtrl (encodePwrCtrl r b) = r := by
  simp (disch := decide) only [fieldPos, decodePwrCtrl, encodePwrCtrl, extract_insert_self, extract_insert_of_disjoint]

theorem decode_encode_rev (r : Rev) (b : Byte) : decodeRev (encodeRev r b) = r :=
  congrArg Rev.mk (extract_insert_self b (fieldPos .revId) r.revId)

/-! ### Encoding what was decoded -/

theorem encode_decode_puCtrl (b : Byte) : encodePuCtrl (decodePuCtrl b) b = b := by
  simp only [encodePuCtrl, decodePuCtrl, insert_extract]

theorem encode_decode_ctrl1 (b : Byte) : encodeCtrl1 (decodeCtrl1 b) b = b := by
  simp only [encodeCtrl1, decodeCtrl1, insert_extract]

theorem encode_decode_ctrl2 (b : Byte) : encodeCtrl2 (decodeCtrl2 b) b = b := by
  simp only [encodeCtrl2, decodeCtrl2, insert_extract]

theorem encode_decode_adcReg (b : Byte) : encodeAdcReg (decodeAdcReg b) b = b := by
  simp only [encodeAdcReg, decodeAdcReg, insert_extract]

theorem encode_decode_pga (b : Byte) : encodePga (decodePga b) b = b := by
  simp only [encodePga, decodePga, insert_extract]

theorem encode_decode_pwrCtrl (b : Byte) : encodePwrCtrl (decodePwrCtrl b) b = b := by
  simp only [encodePwrCtrl, decodePwrCtrl, insert_extract]

theorem encode_decode_rev (b : Byte) : encodeRev (decodeRev b) b = b := insert_extract b _

/-! ### Unnamed bits -/

theorem encodeAdcReg_unnamed (r : AdcReg) (b : Byte) : encodeAdcReg r b &&& 0xC0 = b &&& 0xC0 := by
  simp (disch := decide) only [fieldPos, encodeAdcReg, insert_and_of_disjoint]

theorem encodePga_unnamed (r : Pga) (b : Byte) : encodePga r b &&& 0x06 = b &&& 0x06 := by
  simp (disch := decide) only [fieldPos, encodePga, insert_and_of_disjoint]

theorem encodeRev_unnamed (r : Rev) (b : Byte) : encodeRev r b &&& 0xF0 = b &&& 0xF0 :=
  insert_and_of_disjoint b (F := fieldPos .revId) r.revId (by decide)

end Sys2Proof.Layouts

section
open Sys2Proof Sys2Proof.Layouts

/-- Settles O11, layout by layout, from the laws of field access. -/
theorem registerRecordsRoundTrip : Obligations.RegisterRecordsRoundTrip :=
  ⟨decode_encode_puCtrl, encode_decode_puCtrl, decode_encode_ctrl1, encode_decode_ctrl1, decode_encode_ctrl2,
    encode_decode_ctrl2, fun r b => ⟨decode_encode_adcReg r b, encodeAdcReg_unnamed r b⟩, encode_decode_adcReg,
    fun r b => ⟨decode_encode_pga r b, encodePga_unnamed r b⟩, encode_decode_pga, decode_encode_pwrCtrl,
    encode_decode_pwrCtrl, fun r b => ⟨decode_encode_rev r b, encodeRev_unnamed r b⟩, encode_decode_rev⟩

end
end

section
/-! The conversion result as a number (40_codec R140, R141). -/

namespace Sys2Proof.Codec

/-- A word shifted up over a narrower one: the two do not overlap, so that the OR is the sum. -/
theorem toNat_shiftLeft_or {x y : Data} {n : Nat} (hx : x.toNat * 2 ^ n < 2 ^ 32) (hy : y.toNat < 2 ^ n) :
    (x <<< n ||| y).toNat = x.toNat * 2 ^ n + y.toNat := by
  rw [BitVec.toNat_or, BitVec.toNat_shiftLeft, Nat.shiftLeft_eq, Nat.mod_eq_of_lt hx, ← Nat.shiftLeft_eq,
    Nat.shiftLeft_add_eq_or_of_lt hy]

theorem toNat_assemble24 (b0 b1 b2 : Byte) :
    (assemble24 b0 b1 b2).toNat = b0.toNat * 65536 + b1.toNat * 256 + b2.toNat := by
  have wide (b : Byte) : (b.setWidth 32).toNat = b.toNat := BitVec.toNat_setWidth_of_le (by decide)
  have h0 := b0.isLt
  have h1 := b1.isLt
  have h2 := b2.isLt
  have hlow : (b1.setWidth 32 <<< 8 ||| b2.setWidth 32).toNat = b1.toNat * 2 ^ 8 + b2.toNat := by
    rw [toNat_shiftLeft_or, wide, wide] <;> rw [wide] <;> omega
  rw [assemble24, BitVec.or_assoc, toNat_shiftLeft_or, hlow, wide]
  · omega
  · rw [wide]
    omega
  · rw [hlow]
    omega

/-- `sext24` sets bits 31:24 when bit 23 is set, and no other bit. -/
theorem getLsbD_sext24 (a : Data) {i : Nat} (hi : i < 32) :
    (sext24 a).getLsbD i = (a.getLsbD i || (a.getLsbD 23 && decide (24 ≤ i))) := by
  have hbyte : ∀ i < 32, (0xFF000000 : Data).getLsbD i = decide (24 ≤ i) := by decide
  rw [sext24]
  split
  next h => rw [BitVec.getLsbD_or, hbyte i hi, h, Bool.true_and]
  next h => rw [Bool.eq_false_of_not_eq_true h, Bool.false_and, Bool.or_false]

theorem sext24_eq_signExtend {a : Data} (h : a.toNat < 2 ^ 24) : sext24 a = (a.setWidth 24).signExtend 32 := by
  refine BitVec.eq_of_getLsbD_eq fun i hi => ?_
  have hsign : (a.setWidth 24).msb = a.getLsbD 23 := by simp [BitVec.msb_eq_getLsbD_last]
  rw [getLsbD_sext24 a hi, BitVec.getLsbD_signExtend, hsign]
  by_cases h24 : i < 24
  · simp [hi, h24]
  · have hzero : a.getLsbD i = false :=
      Nat.testBit_lt_two_pow (h.trans_le (Nat.pow_le_pow_right (by decide) (Nat.le_of_not_lt h24)))
    rw [hzero, if_neg h24, decide_eq_true (Nat.le_of_not_lt h24), decide_eq_true hi]
    simp

theorem toInt_sext24 {a : Data} (h : a.toNat < 2 ^ 24) :
    (sext24 a).toInt = if a.toNat < 2 ^ 23 then (a.toNat : Int) else (a.toNat : Int) - 2 ^ 24 := by
  have ha : (a.setWidth 24).toNat = a.toNat := Nat.mod_eq_of_lt h
  rw [sext24_eq_signExtend h, BitVec.toInt_signExtend_of_le (by decide), BitVec.toInt_eq_toNat_cond, ha]
  split <;> split <;> omega

end Sys2Proof.Codec

section
open Sys2Proof

/-- Settles O12: the shifted bytes do not overlap, and the 32-bit word is the sign extension of the 24-bit number. -/
theorem readResultIsTheSignedNumber : Obligations.ReadResultIsTheSignedNumber :=
  ⟨Codec.toNat_assemble24, fun _ h => ⟨Codec.sext24_eq_signExtend h, Codec.toInt_sext24 h⟩⟩

end
end

section
/-! The enumerations' decodings against their code tables (40_codec R134, R136 to R139). -/

namespace Sys2Proof.Codec

open Params

/-! ### A member's code decodes to the member -/

theorem decGain_encGain (g : Gain) : decGain (encGain g) = some g := by cases g <;> rfl

theorem decRate_encRate (r : Rate) : decRate (encRate r) = some r := by cases r <;> rfl

theorem decCalMode_encCalMode (m : CalMode) : decCalMode (encCalMode m) = some m := by cases m <;> rfl

theorem decLdo_encLdo (l : Ldo) : decLdo (encLdo l) = some l := by cases l <;> rfl

/-! ### The codes of no member -/

theorem decGain_ne_none (c : BitVec 3) : decGain c ≠ none := Option.isSome_iff_ne_none.mp (decGain_isSome c)

theorem decRate_eq_none (c : BitVec 3) : decRate c = none ↔ c.toNat ∈ [4, 5, 6] := by
  rw [← Option.not_isSome_iff_eq_none, decRate_isSome, Classical.not_not]
  simp [← BitVec.toNat_inj]

theorem decCalMode_eq_none (c : BitVec 2) : decCalMode c = none ↔ c = 1 := by
  rw [← Option.not_isSome_iff_eq_none, decCalMode_isSome, Classical.not_not]

theorem decLdo_eq_none (c : BitVec 4) : decLdo c = none ↔ 9 ≤ c.toNat := by
  rw [← Option.not_isSome_iff_eq_none, decLdo_isSome, Nat.not_le, Nat.lt_iff_add_one_le]

/-- Every code of the three-bit `VLDO` field is that of an internal level. -/
theorem decLdo_vldo_ne_none (c : BitVec 3) : decLdo (c.setWidth 4) ≠ none := by
  rw [Ne, decLdo_eq_none]
  rw [BitVec.toNat_setWidth_of_le (by decide)]
  have hc := c.isLt
  omega

end Sys2Proof.Codec

section
open Sys2Proof Sys2Proof.Codec

/-- Settles O13, enumeration by enumeration. -/
theorem enumerationDecodingIsPartialInverse : Obligations.EnumerationDecodingIsPartialInverse :=
  ⟨decGain_encGain, decGain_ne_none, decRate_encRate, decRate_eq_none, decCalMode_encCalMode, decCalMode_eq_none,
    decLdo_encLdo, decLdo_eq_none, fun _ => rfl, fun c => ⟨rfl, decLdo_vldo_ne_none c⟩⟩

end
end

section
/-! What an answered bus action completes (41_primitives R150 to R152): the outstanding row's "on answer" column, seen through the
kinds of rows, and the bits of `T` that the edit of a read row leaves as they were read (10_state R32). -/

namespace Sys2Proof.Machine

open Sys2Proof.Params Sys2Proof.Codec

/-! ### The request and the command in progress carry out one row -/

/-- The outstanding action is that of a row of the operation in progress, which both the bus request and the command in progress
carry out. -/
theorem outstanding_performs {s : State} {act : Action} (h : outstanding s = some act) :
    ∃ r, currentRow s = some r ∧ r.action = act ∧ s.phase = .run ∧ RowOk s s.seq.op s.seq.step r ∧
      transact act s = perform r s ∧ exec (running s) s = perform r s := by
  obtain ⟨r, hr, rfl⟩ := outstanding_eq_some h
  obtain ⟨hp, hok⟩ := currentRow_ok hr
  exact ⟨r, hr, rfl, hp, hok, transact_current hr, (exec_running hp).trans (by rw [hr]; rfl)⟩

theorem perform_read {r : Row} {a : Byte} (h : r.action = .read a) (s : State) :
    perform r s = memRead1 a r.onAnswer s := by
  rw [perform, h]

theorem perform_write {r : Row} {a v : Byte} (h : r.action = .write a v) (s : State) :
    perform r s = memWrite1 a v r.onAnswer s := by
  rw [perform, h]

theorem perform_burst {r : Row} (h : r.action = .burst) (s : State) : perform r s = memRead3 r.onAnswer s := by
  rw [perform, h]

/-! ### An answered write -/

/-- The row of `SEQ` is NEW's last, the one that sets `HVALID` (10_state R27). -/
def atNewEnd (s : State) : Bool := s.seq.op == .new && s.seq.step == 27

theorem atNewEnd_iff {s : State} : atNewEnd s = true ↔ s.seq.op = .new ∧ s.seq.step = 27 := by
  simp [atNewEnd]

/-- A write row goes on or returns 0; it changes nothing but `HVALID`, and that at NEW's last row alone. -/
theorem write_onAnswer {s u : State} {r : Row} {a v : Byte} (hr : currentRow s = some r) (hact : r.action = .write a v)
    (hu : u.hvalid = s.hvalid) :
    (∃ k, r.onAnswer u = .row k (u.setHandle (s.hvalid || atNewEnd s))) ∨
      r.onAnswer u = .ret 0 (u.setHandle (s.hvalid || atNewEnd s)) := by
  obtain ⟨hp, hok⟩ := currentRow_ok hr
  cases hend : atNewEnd s with
  | true =>
    obtain ⟨hop, hk⟩ := atNewEnd_iff.mp hend
    rw [currentRow_run hp, hop, hk] at hr
    cases hr
    exact .inr (by rw [Bool.or_true])
  | false =>
    have hkeep : u.setHandle (s.hvalid || false) = u := by rw [Bool.or_false, ← hu]; rfl
    rw [hkeep]
    cases hok with
    | write _ _ _ => exact .inl ⟨_, rfl⟩
    | lastWrite _ _ => exact .inr rfl
    | handle hop hk => exact absurd (atNewEnd_iff.mpr ⟨hop, hk⟩) (by simp [hend])
    | _ => cases hact

/-- The state in which a write row's "on answer" column has been carried out, before `SEQ` or the phase moves. -/
def wrote (s : State) (a v : Byte) (rest : List BusIn) : State :=
  ((s.setBusIn rest).push (.wr a v)).setHandle (s.hvalid || atNewEnd s)

/-- An outstanding write that is answered goes on to another row, or ends with the response `(OK, 0)`. -/
theorem write_completes {s : State} {a v : Byte} {x : BusAnswer} {rest : List BusIn}
    (hout : outstanding s = some (.write a v)) (hb : s.busIn = .answer x :: rest) (hx : x.ok = true) :
    ∃ t, exec (.busWrite a v) s = .next t ∧ exec (running s) s = .next t ∧ s.phase = .run ∧
      ((∃ k, t = (wrote s a v rest).atStep k) ∨ t = returnOk 0 (wrote s a v rest)) := by
  obtain ⟨r, hr, hact, hp, -, hreq, hcmd⟩ := outstanding_performs hout
  rw [perform_write hact, memWrite1_ok hb hx] at hreq hcmd
  refine ⟨_, hreq, hcmd, hp, ?_⟩
  obtain ⟨k, hk⟩ | hret := write_onAnswer (u := (s.setBusIn rest).push (.wr a v)) hr hact rfl
  · exact .inl ⟨k, by rw [hk]; rfl⟩
  · exact .inr (by rw [hret]; rfl)

/-! ### The bits that a row's edit keeps -/

/-- Where a row goes on to row `k`, it has changed `T` in the target fields of row `k` alone: those of the write, if row `k` is
the write of a read-modify-write (10_state R32, 41_primitives R153), and none if it is another row. -/
def KeepsRest (op : Op) (f : State → Next) : Prop :=
  ∀ u w k, f u = .row k w → w.t &&& ~~~ targetMask op k = u.t &&& ~~~ targetMask op k

section KeepsRest
variable {op : Op} {k : Nat}

/-- `T` is kept. -/
theorem KeepsRest.goto : KeepsRest op (fun u => .row k u) := by
  intro u w _ h
  cases h
  rfl

/-- One target field is set. -/
theorem KeepsRest.field {F : FieldName} {v : State → BitVec (fieldPos F).width}
    (hF : mask (fieldPos F) &&& ~~~ targetMask op k = 0 := by decide) :
    KeepsRest op (fun u => .row k (u.setField F (v u))) := by
  intro u w _ h
  cases h
  exact insert_and_of_disjoint u.t (v u) hF

/-- Two target fields are set. -/
theorem KeepsRest.fields {F G : FieldName} {v : State → BitVec (fieldPos F).width} {c : BitVec (fieldPos G).width}
    (hF : mask (fieldPos F) &&& ~~~ targetMask op k = 0 := by decide)
    (hG : mask (fieldPos G) &&& ~~~ targetMask op k = 0 := by decide) :
    KeepsRest op (fun u => .row k ((u.setField F (v u)).setField G c)) := by
  intro u w _ h
  cases h
  exact (insert_and_of_disjoint _ c hG).trans (insert_and_of_disjoint u.t (v u) hF)

theorem KeepsRest.ret {d : State → Data} {f : State → State} : KeepsRest op (fun u => .ret (d u) (f u)) := by
  intro _ _ _ h
  cases h

theorem KeepsRest.err {e : State → Err} : KeepsRest op (fun u => .err (e u) u) := by
  intro _ _ _ h
  cases h

/-- A row that decides between two columns. -/
theorem KeepsRest.ite {p : State → Bool} {f g : State → Next} (hf : KeepsRest op f) (hg : KeepsRest op g) :
    KeepsRest op (fun u => if p u then f u else g u) := by
  intro u w k h
  dsimp only at h
  split at h
  · exact hf u w k h
  · exact hg u w k h

theorem KeepsRest.ready {f : State → Next} (hf : KeepsRest op f) : KeepsRest op (fun u => requireReady u (f u)) :=
  .ite (p := State.pur) hf .err

theorem KeepsRest.revision {f : State → Next} (hf : KeepsRest op f) : KeepsRest op (fun u => requireRevision u (f u)) :=
  .ite (p := fun u => revOk u.t) hf .err

end KeepsRest

section tables
variable {s : State}

theorem resetTable_keepsRest : ∀ {k : Nat} {r : Row}, resetTable s k = some r → KeepsRest .reset r.onAnswer
  | 0, _, rfl => .field
  | 3, _, rfl => .fields
  | 1, _, rfl | 2, _, rfl | 4, _, rfl | 5, _, rfl => .goto
  | 6, _, rfl => .ready .ret
  | _ + 7, _, h => nomatch h

theorem powerDownTable_keepsRest : ∀ {k : Nat} {r : Row}, powerDownTable s k = some r → KeepsRest .enable r.onAnswer
  | 0, _, rfl => .fields
  | 1, _, rfl => .ret
  | _ + 2, _, h => nomatch h

theorem powerUpTable_keepsRest : ∀ {k : Nat} {r : Row}, powerUpTable s k = some r → KeepsRest .enable r.onAnswer
  | 0, _, rfl => .fields
  | 3, _, rfl => .field
  | 1, _, rfl | 2, _, rfl | 4, _, rfl => .goto
  | 5, _, rfl => .ready .ret
  | _ + 6, _, h => nomatch h

theorem enableTable_keepsRest {k : Nat} {r : Row} (h : enableTable s k = some r) : KeepsRest .enable r.onAnswer := by
  unfold enableTable at h
  split at h
  · exact powerUpTable_keepsRest h
  · exact powerDownTable_keepsRest h

theorem availableTable_keepsRest : ∀ {k : Nat} {r : Row}, availableTable s k = some r → KeepsRest .available r.onAnswer
  | 0, _, rfl => .ret
  | _ + 1, _, h => nomatch h

theorem readTable_keepsRest : ∀ {k : Nat} {r : Row}, readTable s k = some r → KeepsRest .read r.onAnswer
  | 0, _, rfl => .ret
  | _ + 1, _, h => nomatch h

theorem setLdoTable_keepsRest : ∀ {k : Nat} {r : Row}, setLdoTable s k = some r → KeepsRest .setLdo r.onAnswer
  | 0, _, rfl => .field
  | 1, _, h => by
      simp only [setLdoTable] at h
      split at h <;> cases h
      · exact .ret
      · exact .goto
  | 2, _, h => by
      simp only [setLdoTable] at h
      split at h <;> cases h
      exact .field
  | 3, _, h => by
      simp only [setLdoTable] at h
      split at h <;> cases h
      exact .ret
  | _ + 4, _, h => nomatch h

theorem getLdoTable_keepsRest : ∀ {k : Nat} {r : Row}, getLdoTable s k = some r → KeepsRest .getLdo r.onAnswer
  | 0, _, rfl => .ite .goto .ret
  | 1, _, rfl => .ret
  | _ + 2, _, h => nomatch h

theorem setGainTable_keepsRest : ∀ {k : Nat} {r : Row}, setGainTable s k = some r → KeepsRest .setGain r.onAnswer
  | 0, _, rfl => .field
  | 1, _, rfl => .ret
  | _ + 2, _, h => nomatch h

theorem getGainTable_keepsRest : ∀ {k : Nat} {r : Row}, getGainTable s k = some r → KeepsRest .getGain r.onAnswer
  | 0, _, rfl => .ite .ret .err
  | _ + 1, _, h => nomatch h

theorem setRateTable_keepsRest : ∀ {k : Nat} {r : Row}, setRateTable s k = some r → KeepsRest .setRate r.onAnswer
  | 0, _, rfl => .field
  | 1, _, rfl => .ret
  | _ + 2, _, h => nomatch h

theorem getRateTable_keepsRest : ∀ {k : Nat} {r : Row}, getRateTable s k = some r → KeepsRest .getRate r.onAnswer
  | 0, _, rfl => .ite .ret .err
  | _ + 1, _, h => nomatch h

theorem calibrateTable_keepsRest : ∀ {k : Nat} {r : Row}, calibrateTable s k = some r → KeepsRest .calibrate r.onAnswer
  | 0, _, rfl => .fields
  | 1, _, rfl | 3, _, rfl => .goto
  | 2, _, rfl => .ite .goto (.ite .err .ret)
  | _ + 4, _, h => nomatch h

theorem newTable_keepsRest : ∀ {k : Nat} {r : Row}, newTable s k = some r → KeepsRest .new r.onAnswer
  | 0, _, rfl | 10, _, rfl | 14, _, rfl | 18, _, rfl | 20, _, rfl | 22, _, rfl | 24, _, rfl | 26, _, rfl => .field
  | 3, _, rfl | 7, _, rfl => .fields
  | 1, _, rfl | 2, _, rfl | 4, _, rfl | 5, _, rfl | 8, _, rfl | 9, _, rfl | 11, _, rfl | 15, _, rfl | 19, _, rfl
  | 21, _, rfl | 23, _, rfl | 25, _, rfl => .goto
  | 6, _, rfl | 12, _, rfl => .ready .goto
  | 13, _, rfl => .revision .goto
  | 16, _, h => by
      simp only [newTable] at h
      split at h <;> cases h
      exact .field
  | 17, _, h => by
      simp only [newTable] at h
      split at h <;> cases h
      exact .goto
  | 27, _, rfl => .ret
  | _ + 28, _, h => nomatch h

/-- No row of any table edits more of `T` than the target fields of the row it goes on to. -/
theorem tableOf_keepsRest {op : Op} {k : Nat} {r : Row} (h : tableOf op s k = some r) : KeepsRest op r.onAnswer := by
  cases op with
  | new => exact newTable_keepsRest h
  | reset => exact resetTable_keepsRest h
  | enable => exact enableTable_keepsRest h
  | available => exact availableTable_keepsRest (s := s) h
  | read => exact readTable_keepsRest (s := s) h
  | setLdo => exact setLdoTable_keepsRest h
  | getLdo => exact getLdoTable_keepsRest (s := s) h
  | setGain => exact setGainTable_keepsRest h
  | getGain => exact getGainTable_keepsRest (s := s) h
  | setRate => exact setRateTable_keepsRest h
  | getRate => exact getRateTable_keepsRest (s := s) h
  | calibrate => exact calibrateTable_keepsRest h

theorem currentRow_keepsRest {r : Row} (h : currentRow s = some r) : KeepsRest s.seq.op r.onAnswer :=
  tableOf_keepsRest ((currentRow_run (currentRow_ok h).1).symm.trans h)

end tables

/-! ### An answered read -/

/-- Where the verdict goes on to row `k`, its byte is `v` outside the target fields of that row. -/
def Verdict.KeepsRest (op : Op) (v : Byte) : Verdict → Prop
  | .goto k b => b &&& ~~~ targetMask op k = v &&& ~~~ targetMask op k
  | _ => True

/-- A read row decides by a verdict that keeps the byte read outside the target fields of the write that follows. -/
theorem read_onAnswer {s : State} {r : Row} {a : Byte} (hr : currentRow s = some r) (hact : r.action = .read a) (u : State) :
    ∃ c : Verdict, r.onAnswer u = c.on u ∧ c.KeepsRest s.seq.op u.t := by
  have hrest := currentRow_keepsRest hr
  obtain ⟨-, hok⟩ := currentRow_ok hr
  cases hok with
  | read hf _ =>
    obtain ⟨c, -, hc, -⟩ := hf u u (.refl _ u) rfl
    refine ⟨c, hc, ?_⟩
    cases c with
    | goto k b => exact hrest u (u.load b) k hc
    | done _ => trivial
    | fail _ => trivial
  | _ => cases hact

/-- A single read of `a` was answered `v`, and `T` is that byte. -/
def loaded (s : State) (a v : Byte) (rest : List BusIn) : State := ((s.setBusIn rest).push (.rd a v)).load v

/-- An outstanding read that is answered is carried out as the verdict of its row on the byte read. -/
theorem read_completes {s : State} {a : Byte} {x : BusAnswer} {rest : List BusIn}
    (hout : outstanding s = some (.read a)) (hb : s.busIn = .answer x :: rest) (hx : x.ok = true) :
    ∃ c : Verdict, exec (.busRead1 a) s = .next (commit (c.on (loaded s a x.rb0 rest))) ∧
      exec (running s) s = .next (commit (c.on (loaded s a x.rb0 rest))) ∧ s.phase = .run ∧
      c.KeepsRest s.seq.op x.rb0 := by
  obtain ⟨r, hr, hact, hp, -, hreq, hcmd⟩ := outstanding_performs hout
  rw [perform_read hact, memRead1_ok hb hx] at hreq hcmd
  obtain ⟨c, hc, hrest⟩ := read_onAnswer hr hact (loaded s a x.rb0 rest)
  refine ⟨c, ?_⟩
  rw [← hc]
  exact ⟨hreq, hcmd, hp, hrest⟩

/-! ### The answered burst -/

/-- An outstanding burst is the row of READ, which sign-extends what the burst has assembled. -/
theorem burst_onAnswer {s : State} {r : Row} (hok : RowOk s s.seq.op s.seq.step r) (hact : r.action = .burst) :
    r = ⟨.burst, fun u => .ret (sext24 u.acc) (u.setAcc (sext24 u.acc))⟩ := by
  cases hok with
  | burst _ _ => rfl
  | _ => cases hact

/-- READ's end after its burst: `d` is in `ACC` and in the response, and nothing is left of the assembled number `c`. -/
theorem returnOk_burst (s : State) (rest : List BusIn) (i : TraceItem) (c d : Data) :
    returnOk d ((((s.setBusIn rest).push i).setAcc c).setAcc d) =
      { s with phase := .idle, busIn := rest, acc := d, trace := .rsp .ok d :: i :: s.trace } := rfl

end Sys2Proof.Machine

section
open Sys2Proof Sys2Proof.Machine

/-- Settles O36: the write goes on or returns from one state, whose fields are read off. -/
theorem busWriteCompletes : Obligations.BusWriteCompletes := by
  intro s a v x rest hout hb hx
  obtain ⟨t, hreq, hcmd, hp, ht⟩ := write_completes hout hb hx
  refine ⟨t, hreq, hcmd, ?_⟩
  obtain ⟨k, rfl⟩ | rfl := ht <;> simp [wrote, atNewEnd, hp]

/-- Settles O37, by cases on the verdict on the byte read. -/
theorem busReadOneCompletes : Obligations.BusReadOneCompletes := by
  intro s a x rest hout hb hx
  obtain ⟨c, hreq, hcmd, hp, hrest⟩ := read_completes hout hb hx
  refine ⟨_, hreq, hcmd, ?_⟩
  cases c with
  | goto k b => exact ⟨.inl ⟨rfl, hp, hrest⟩, by simp [Verdict.on, commit, loaded]⟩
  | done d => exact ⟨.inr ⟨.ok, d, rfl, rfl, rfl⟩, by simp [Verdict.on, commit, loaded]⟩
  | fail e => exact ⟨.inr ⟨errStatus e, errData e, rfl, rfl, rfl⟩, by simp [Verdict.on, commit, loaded]⟩

/-- Settles O38: the outstanding burst is READ's row, and its answer is assembled into `ACC` before it is sign-extended there. -/
theorem busReadThreeCompletes : Obligations.BusReadThreeCompletes := by
  intro s x rest hout hb hx
  obtain ⟨r, -, hact, -, hok, hreq, -⟩ := outstanding_performs hout
  rw [burst_onAnswer hok hact, perform_burst rfl, memRead3_ok hb hx, commit, State.setAcc_acc, returnOk_burst] at hreq
  exact hreq

end
end

section
/-! What an answered row does, one rule per kind of row: the command in progress carries out the row of `SEQ`, and the state that
it leads to is the one that the statements name (42_init_power). -/

namespace Sys2Proof.Machine

open Sys2Proof.Params Sys2Proof.Codec

/-! ### One-bit fields -/

theorem isSet_eq_true_iff {F : FieldName} (b : Byte) : isSet b (fieldPos F) = true ↔ extract b (fieldPos F) = 1 :=
  beq_iff_eq

theorem revOk_iff (b : Byte) : revOk b = true ↔ extract b (fieldPos .revId) = 0xF := beq_iff_eq

/-- The enable bit that a reference operand asks for: 0 for External alone (44_config R190). -/
theorem avddsOf_eq (ldo : BitVec 4) : ofBool 1 (ldo != encLdo .ext) = if ldo = 8 then 0 else 1 := by decide +revert

/-! ### The command in progress at a row -/

/-- At a row the command in progress is that of the row's operation. -/
theorem running_of_atRow {s : State} {op : Op} {k : Nat} (h : AtRow s op k) : running s = running { s with seq := ⟨op, k⟩ } := by
  rw [← h.2]

section rows
variable {s : State} {op : Op} {k k' : Nat} {i : Instr} {a : Byte} {x : BusAnswer} {rest : List BusIn} {dones : List DlyIn}
  {ms : BitVec 10}

/-- The command in progress carries out the row of its table. -/
theorem exec_atRow {r : Row} (h : AtRow s op k) (hi : running s = i) (hr : tableOf op s k = some r) :
    exec i s = perform r s := by
  obtain ⟨hp, hseq⟩ := h
  have hcur : currentRow s = some r := by rw [currentRow_run hp, hseq, hr]
  rw [← hi, exec_running hp, hcur]
  rfl

/-- An answered read, carried out as its row says. -/
theorem exec_read {f : State → Next} (h : AtRow s op k) (hi : running s = i) (hr : tableOf op s k = some ⟨.read a, f⟩)
    (hb : s.busIn = .answer x :: rest) (hx : x.ok = true) : exec i s = .next (commit (f (loaded s a x.rb0 rest))) := by
  rw [exec_atRow h hi hr, perform_read rfl, memRead1_ok hb hx, loaded]

/-- An answered read whose row edits `T` to `v` and goes on. -/
theorem exec_readRow {edit : State → State} {v : Byte} (h : AtRow s op k) (hi : running s = i)
    (hr : tableOf op s k = some (readRow a k' edit)) (hb : s.busIn = .answer x :: rest) (hx : x.ok = true)
    (hv : edit (loaded s a x.rb0 rest) = (loaded s a x.rb0 rest).load v) :
    exec i s = .next (afterRead s a x rest v k') := by
  rw [exec_read h hi hr hb hx, hv]
  rfl

/-- An answered write that goes on. -/
theorem exec_writeRow (h : AtRow s op k) (hi : running s = i) (hr : tableOf op s k = some (writeRow s a k'))
    (hb : s.busIn = .answer x :: rest) (hx : x.ok = true) : exec i s = .next (afterWrite s a rest k') := by
  rw [exec_atRow h hi hr, perform_write rfl, memWrite1_ok hb hx]
  rfl

/-- An answered write that ends the operation. -/
theorem exec_lastWriteRow (h : AtRow s op k) (hi : running s = i) (hr : tableOf op s k = some (lastWriteRow s a))
    (hb : s.busIn = .answer x :: rest) (hx : x.ok = true) : exec i s = .next (endedByWrite s a rest) := by
  rw [exec_atRow h hi hr, perform_write rfl, memWrite1_ok hb hx]
  rfl

/-- An answered delay. -/
theorem exec_delayRow (h : AtRow s op k) (hi : running s = i) (hr : tableOf op s k = some (delayRow ms k'))
    (hd : s.dlyIn = .done :: dones) : exec i s = .next (afterDelay s ms dones k') := by
  rw [exec_atRow h hi hr]
  exact delayFor_done hd

/-- The readiness check carried out after a read (60_exceptions R217): `PUR` of the byte read decides. -/
theorem commit_requireReady (n : Next) :
    commit (requireReady (loaded s a x.rb0 rest) n) =
      if extract x.rb0 (fieldPos .pur) = 1 then commit n else endedByRead s a x rest .notReady 0 := by
  rw [requireReady, State.pur, State.flag, loaded, State.load_t, apply_ite commit]
  simp only [isSet_eq_true_iff]
  rfl

/-- The revision check carried out after a read (60_exceptions R220): the low nibble of the byte read decides. -/
theorem commit_requireRevision (n : Next) :
    commit (requireRevision (loaded s a x.rb0 rest) n) =
      if extract x.rb0 (fieldPos .revId) = 0xF then commit n
      else endedByRead s a x rest .revisionMismatch ((extract x.rb0 (fieldPos .revId)).setWidth 32) := by
  rw [requireRevision, loaded, State.load_t, apply_ite commit]
  simp only [revOk_iff]
  rfl

/-- The last row of RESET and of ENABLE: a read that checks readiness and returns. -/
theorem exec_readyEnd (h : AtRow s op k) (hi : running s = i)
    (hr : tableOf op s k = some ⟨.read a, fun u => requireReady u (.ret 0 u)⟩)
    (hb : s.busIn = .answer x :: rest) (hx : x.ok = true) :
    exec i s = .next (endedByRead s a x rest (if extract x.rb0 (fieldPos .pur) = 1 then .ok else .notReady) 0) := by
  rw [exec_read h hi hr hb hx, commit_requireReady]
  split <;> rfl

/-- A read of NEW that checks readiness and goes on. -/
theorem exec_readyRow (h : AtRow s op k) (hi : running s = i)
    (hr : tableOf op s k = some ⟨.read a, fun u => requireReady u (.row k' u)⟩)
    (hb : s.busIn = .answer x :: rest) (hx : x.ok = true) :
    exec i s = .next (if extract x.rb0 (fieldPos .pur) = 1 then afterRead s a x rest x.rb0 k'
      else endedByRead s a x rest .notReady 0) := by
  rw [exec_read h hi hr hb hx, commit_requireReady]
  rfl

/-- NEW's check of the revision. -/
theorem exec_revisionRow (h : AtRow s op k) (hi : running s = i)
    (hr : tableOf op s k = some ⟨.read a, fun u => requireRevision u (.row k' u)⟩)
    (hb : s.busIn = .answer x :: rest) (hx : x.ok = true) :
    exec i s = .next (if extract x.rb0 (fieldPos .revId) = 0xF then afterRead s a x rest x.rb0 k'
      else endedByRead s a x rest .revisionMismatch ((extract x.rb0 (fieldPos .revId)).setWidth 32)) := by
  rw [exec_read h hi hr hb hx, commit_requireRevision]
  rfl

/-- NEW's last row: the end of the write, with a handle. -/
theorem exec_newEnd (h : AtRow s .new 27) (hi : running s = i) (hb : s.busIn = .answer x :: rest) (hx : x.ok = true) :
    exec i s = .next { endedByWrite s pwrCtrl rest with hvalid := true } := by
  rw [exec_atRow h hi rfl, perform_write rfl, memWrite1_ok hb hx]
  rfl

end rows

end Sys2Proof.Machine

section
open Sys2Proof Sys2Proof.Machine

/-- Settles O24, row by row. -/
theorem resetRows : Obligations.ResetRows := by
  have running_reset {s : State} {k : Nat} (h : AtRow s .reset k) : running s = .reset := running_of_atRow h
  refine ⟨fun s x rest hb hx => ⟨fun h => ?_, fun h => ?_, fun h => ?_, fun h => ?_, fun h => ?_⟩,
    fun s rest hd => ⟨fun h => ?_, fun h => ?_⟩⟩
  · exact exec_readRow h (running_reset h) rfl hb hx rfl
  · exact exec_writeRow h (running_reset h) rfl hb hx
  · exact exec_readRow h (running_reset h) rfl hb hx rfl
  · exact exec_writeRow h (running_reset h) rfl hb hx
  · exact exec_readyEnd h (running_reset h) rfl hb hx
  · exact exec_delayRow h (running_reset h) rfl hd
  · exact exec_delayRow h (running_reset h) rfl hd

/-- Settles O25, row by row; the operand latch says which of the two tables. -/
theorem enableRows : Obligations.EnableRows := by
  refine ⟨fun s x rest hb hx hpwr => ?_, fun s x rest hb hx hpwr => ?_, fun s rest hd hpwr h => ?_⟩
  all_goals have running_enable {k : Nat} (h : AtRow s .enable k) := (running_of_atRow h).trans (congrArg Instr.enable hpwr)
  · have table (k : Nat) : tableOf .enable s k = powerDownTable s k := if_neg (by simp [hpwr])
    refine ⟨fun h => ?_, fun h => ?_⟩
    · exact exec_readRow h (running_enable h) (table 0) hb hx rfl
    · exact exec_lastWriteRow h (running_enable h) (table 1) hb hx
  · have table (k : Nat) : tableOf .enable s k = powerUpTable s k := if_pos hpwr
    refine ⟨fun h => ?_, fun h => ?_, fun h => ?_, fun h => ?_, fun h => ?_⟩
    · exact exec_readRow h (running_enable h) (table 0) hb hx rfl
    · exact exec_writeRow h (running_enable h) (table 1) hb hx
    · exact exec_readRow h (running_enable h) (table 3) hb hx rfl
    · exact exec_writeRow h (running_enable h) (table 4) hb hx
    · exact exec_readyEnd h (running_enable h) (table 5) hb hx
  · exact exec_delayRow h (running_enable h) (if_pos hpwr) hd

/-- Settles O26, row by row: the reads that edit `T`, the writes, and the rows of another kind. -/
theorem newRows : Obligations.NewRows := by
  refine ⟨?_, ?_⟩
  · rintro s x rest _ _ _ hb hx rfl rfl rfl
    have running_new {k : Nat} (h : AtRow s .new k) : running s = .new s.aLdo s.aGain s.aRate := running_of_atRow h
    have read {k k' : Nat} {a v : Byte} {edit : State → State} (h : AtRow s .new k)
        (hr : newTable s k = some (readRow a k' edit))
        (hv : edit (loaded s a x.rb0 rest) = (loaded s a x.rb0 rest).load v) :
        exec (.new s.aLdo s.aGain s.aRate) s = .next (afterRead s a x rest v k') :=
      exec_readRow h (running_new h) hr hb hx hv
    have write {k k' : Nat} {a : Byte} (h : AtRow s .new k) (hr : newTable s k = some (writeRow s a k')) :
        exec (.new s.aLdo s.aGain s.aRate) s = .next (afterWrite s a rest k') :=
      exec_writeRow h (running_new h) hr hb hx
    have ready {k k' : Nat} (h : AtRow s .new k)
        (hr : newTable s k = some ⟨.read 0x00, fun u => requireReady u (.row k' u)⟩) :
        exec (.new s.aLdo s.aGain s.aRate) s = .next (if Codec.extract x.rb0 (Params.fieldPos .pur) = 1
          then afterRead s 0x00 x rest x.rb0 k' else endedByRead s 0x00 x rest .notReady 0) :=
      exec_readyRow h (running_new h) hr hb hx
    refine ⟨?reset0, ?reset1, ?reset3, ?reset4, ?reset6, ?enable0, ?enable1, ?enable3, ?enable4, ?enable5, ?revision,
      ?setLdo0, ?setLdo1, ?setLdo2, ?setLdo3, ?setGain0, ?setGain1, ?setRate0, ?setRate1, ?adcReg0, ?adcReg1, ?pga0, ?pga1,
      ?pwrCtrl0, ?pwrCtrl1⟩
    case reset6 | enable5 => exact (ready · rfl)
    case revision => exact fun h => exec_revisionRow h (running_new h) rfl hb hx
    case setLdo0 => exact fun h => avddsOf_eq s.aLdo ▸ read h rfl rfl
    case setLdo2 => exact fun h hldo => read h (if_neg hldo) rfl
    case setLdo3 => exact fun h hldo => write h (if_neg hldo)
    case pwrCtrl1 => exact fun h => exec_newEnd h (running_new h) hb hx
    case reset0 | reset3 | enable0 | enable3 | setGain0 | setRate0 | adcReg0 | pga0 | pwrCtrl0 => exact (read · rfl rfl)
    case reset1 | reset4 | enable1 | enable4 | setLdo1 | setGain1 | setRate1 | adcReg1 | pga1 => exact (write · rfl)
  · rintro s rest _ _ _ hd rfl rfl rfl
    have delay {k k' : Nat} {ms : BitVec 10} (h : AtRow s .new k) (hr : newTable s k = some (delayRow ms k')) :
        exec (.new s.aLdo s.aGain s.aRate) s = .next (afterDelay s ms rest k') :=
      exec_delayRow h (running_of_atRow h) hr hd
    exact ⟨(delay · rfl), (delay · rfl), (delay · rfl)⟩

/-- Settles O22: the two commands have one operation, one expansion and one acceptance; the rest is what NEW does. -/
theorem newDefaultIsNewWithDefaults : Obligations.NewDefaultIsNewWithDefaults := by
  have hexec (s : State) : exec .newDefault s = exec (.new 4 7 3) s := by
    rw [exec_command (i := .newDefault) rfl, exec_command (i := .new 4 7 3) rfl]
    rfl
  refine ⟨hexec, fun s hp => ?_, fun s x rest h hrun hb hx => ?_⟩
  · rw [hexec]
    exact newIsAcceptedAndClearsTheHandle s 4 7 3 hp (by decide) (by decide)
  · rw [hexec]
    exact exec_newEnd h hrun hb hx

end
end

section
/-! The parts of NEW (42_init_power R169): NEW's table holds the tables of RESET, ENABLE with operand 1, SET_LDO, SET_GAIN and
SET_RATE, renumbered, and a row at its new place does what it does at its old one. -/

namespace Sys2Proof.Machine

open Sys2Proof.Params Sys2Proof.Codec

/-! ### A row at another place -/

/-- The "on answer" column of a part whose row 0 is at row `first`: row numbers are shifted, and with `some fin` the normal end
goes on at row `fin`. -/
def Next.placed (first : Nat) (fin : Option Nat) : Next → Next
  | .row k s => .row (first + k) s
  | .ret v s => match fin with
    | none => .ret v s
    | some k => .row k s
  | .err e s => .err e s

/-- A row of a part whose row 0 is at row `first`. -/
def Row.placed (first : Nat) (fin : Option Nat) (r : Row) : Row := ⟨r.action, fun s => (r.onAnswer s).placed first fin⟩

/-- The readiness check is the same at every place. -/
theorem placed_requireReady (first : Nat) (fin : Option Nat) (s : State) (n : Next) :
    (requireReady s n).placed first fin = requireReady s (n.placed first fin) :=
  apply_ite (Next.placed first fin) _ _ _

/-- A row that checks readiness and returns is, with its end at row `k`, one that checks and goes on there. -/
theorem placed_readyRow (first k : Nat) (a : Byte) :
    Row.placed first (some k) ⟨.read a, fun s => requireReady s (.ret 0 s)⟩ =
      ⟨.read a, fun s => requireReady s (.row k s)⟩ :=
  congrArg (Row.mk (.read a)) (funext fun s => placed_requireReady first (some k) s (.ret 0 s))

/-! ### NEW's table is made of its parts' tables -/

/-- Rows `first` to `first + count - 1` of NEW's table are the table `part`, renumbered, with its end at the row after them. -/
def NewHolds (s : State) (part : State → Nat → Option Row) (first count : Nat) : Prop :=
  ∀ k < count, newTable s (first + k) = (part s k).map (Row.placed first (some (first + count)))

theorem newHolds_reset (s : State) : NewHolds s resetTable 0 7
  | 0, _ | 1, _ | 2, _ | 3, _ | 4, _ | 5, _ => rfl
  | 6, _ => congrArg some (placed_readyRow 0 7 puCtrl).symm
  | k + 7, h => absurd h (by omega)

theorem newHolds_powerUp (s : State) : NewHolds s powerUpTable 7 6
  | 0, _ | 1, _ | 2, _ | 3, _ | 4, _ => rfl
  | 5, _ => congrArg some (placed_readyRow 7 13 puCtrl).symm
  | k + 6, h => absurd h (by omega)

/-- With External the part ends at its row 1, and NEW skips its rows 2 and 3. -/
theorem newHolds_setLdo (s : State) : NewHolds s setLdoTable 14 4
  | 0, _ => rfl
  | 1, _ | 2, _ | 3, _ => by
      simp only [newTable, setLdoTable, Nat.reduceAdd]
      split <;> rfl
  | k + 4, h => absurd h (by omega)

theorem newHolds_setGain (s : State) : NewHolds s setGainTable 18 2
  | 0, _ | 1, _ => rfl
  | k + 2, h => absurd h (by omega)

theorem newHolds_setRate (s : State) : NewHolds s setRateTable 20 2
  | 0, _ | 1, _ => rfl
  | k + 2, h => absurd h (by omega)

/-- The five parts of NEW, with their first rows and their lengths (R169). -/
theorem newHolds_part {s : State} {op : Op} {first count : Nat}
    (h : (op, first, count) ∈ [(Op.reset, 0, 7), (Op.enable, 7, 6), (Op.setLdo, 14, 4), (Op.setGain, 18, 2), (Op.setRate, 20, 2)])
    (hpwr : op = .enable → s.aPwr = true) : NewHolds s (tableOf op) first count := by
  simp only [List.mem_cons, List.not_mem_nil, or_false, Prod.mk.injEq] at h
  obtain ⟨rfl, rfl, rfl⟩ | ⟨rfl, rfl, rfl⟩ | ⟨rfl, rfl, rfl⟩ | ⟨rfl, rfl, rfl⟩ | ⟨rfl, rfl, rfl⟩ := h
  · exact newHolds_reset s
  · intro k hk
    rw [tableOf, enableTable, if_pos (hpwr rfl)]
    exact newHolds_powerUp s k hk
  · exact newHolds_setLdo s
  · exact newHolds_setGain s
  · exact newHolds_setRate s

/-! ### What a row leads to at its new place -/

/-- Without block reset, a step at a row is that row of the operation's table. -/
theorem step_atRow {s : State} {op : Op} {k : Nat} (h : AtRow s op k) (hrst : s.rst = false) :
    step s = performRow (tableOf op s k) s := by
  obtain ⟨hp, hseq⟩ := h
  rw [step_run hp hrst, currentRow_run hp, hseq]

/-- `s` in RUN with `SEQ` = `(op, k)`. -/
def State.inRun (s : State) (op : Op) (k : Nat) : State := { s with phase := .run, seq := ⟨op, k⟩ }

theorem step_inRun {s : State} (hrst : s.rst = false) (op : Op) (k : Nat) :
    step (s.inRun op k) = performRow (tableOf op s k) (s.inRun op k) := by
  rw [step_atRow (s := s.inRun op k) ⟨rfl, rfl⟩ hrst, tableOf_congr (x := s.inRun op k) (y := s) (.refl op s) rfl]

/-- A row's "on answer" column is a verdict that depends on `T` and the latches of the operation alone, but for the burst of READ
and the last row of NEW. -/
theorem RowOk.verdict {s x y : State} {op : Op} {k : Nat} {r : Row} (hr : RowOk s op k r) (hburst : r.action ≠ .burst)
    (hend : ¬ (op = .new ∧ k = 27)) (hl : SameLatches op x y) (ht : x.t = y.t) :
    ∃ c : Verdict, r.onAnswer x = c.on x ∧ r.onAnswer y = c.on y := by
  cases hr with
  | read hf _ =>
    obtain ⟨c, -, hx, hy⟩ := hf x y hl ht
    exact ⟨c, hx, hy⟩
  | @write _ k' _ _ _ => exact ⟨.goto k' x.t, rfl, ht ▸ rfl⟩
  | lastWrite _ _ => exact ⟨.done 0, rfl, rfl⟩
  | handle hop hk => exact absurd ⟨hop, hk⟩ hend
  | burst _ _ => exact absurd rfl hburst
  | @delay _ k' _ _ => exact ⟨.goto k' x.t, rfl, ht ▸ rfl⟩

/-- `v` is `u`, moved from row `k` of a part to row `first + k` of NEW. -/
structure Moved (first k : Nat) (u v : State) : Prop where
  run : u.phase = .run
  row : u.seq.step = k
  eq : v = { u with seq := ⟨.new, first + k⟩ }

/-- NEW's step `r` does what the part's step, which leads from row `k` to `t`, does: it goes on at the renumbered row, or goes on
at the row after the part where the part ends, or ends with the part's error (R169). -/
def DoesAsPart (first count k : Nat) (t : State) (r : Result) : Prop :=
  (t.phase = .run → r = .next { t with seq := ⟨.new, first + t.seq.step⟩ }) ∧
  (t.phase = .idle → ∀ st d, t.trace.head? = some (.rsp st d) →
    (st = .ok → r = .next { t with phase := .run, seq := ⟨.new, first + count⟩, trace := t.trace.tail }) ∧
    (st ≠ .ok → r = .next { t with seq := ⟨.new, first + k⟩ }))

section moved
variable {first count k : Nat} {u v t : State}

theorem Moved.setBusIn (h : Moved first k u v) (l : List BusIn) : Moved first k (u.setBusIn l) (v.setBusIn l) :=
  ⟨h.run, h.row, congrArg (State.setBusIn · l) h.eq⟩

theorem Moved.setDlyIn (h : Moved first k u v) (l : List DlyIn) : Moved first k (u.setDlyIn l) (v.setDlyIn l) :=
  ⟨h.run, h.row, congrArg (State.setDlyIn · l) h.eq⟩

theorem Moved.push (h : Moved first k u v) (i : TraceItem) : Moved first k (u.push i) (v.push i) :=
  ⟨h.run, h.row, congrArg (State.push · i) h.eq⟩

theorem Moved.load (h : Moved first k u v) (b : Byte) : Moved first k (u.load b) (v.load b) :=
  ⟨h.run, h.row, congrArg (State.load · b) h.eq⟩

theorem Moved.busIn (h : Moved first k u v) : v.busIn = u.busIn := by rw [h.eq]

theorem Moved.dlyIn (h : Moved first k u v) : v.dlyIn = u.dlyIn := by rw [h.eq]

theorem Moved.sameT (h : Moved first k u v) : u.t = v.t := by rw [h.eq]

theorem Moved.sameLatches (h : Moved first k u v) (op : Op) : SameLatches op u v := by
  obtain ⟨-, -, rfl⟩ := h
  exact .refl op u

/-- Waiting, at both places. -/
theorem Moved.waits (h : Moved first k u v) : DoesAsPart first count k u (.next v) := by
  obtain ⟨hp, rfl, rfl⟩ := h
  exact ⟨fun _ => rfl, fun hi => by simp [hp] at hi⟩

/-- An error of the part is NEW's error. -/
theorem Moved.raises (h : Moved first k u v) (e : Err) : DoesAsPart first count k (raise e u) (.next (raise e v)) := by
  obtain ⟨-, -, rfl⟩ := h
  refine ⟨nofun, fun _ st d htrace => ⟨fun hst => ?_, fun _ => rfl⟩⟩
  cases htrace
  cases e <;> cases hst

/-- A row of the part that goes on. -/
theorem Moved.goes (h : Moved first k u v) (j : Nat) :
    DoesAsPart first count k (u.atStep j) (.next (v.atStep (first + j))) := by
  obtain ⟨hp, -, rfl⟩ := h
  exact ⟨fun _ => rfl, fun hi => by simp [hp] at hi⟩

/-- Where the part returns, NEW goes on at the row after it. -/
theorem Moved.ends (h : Moved first k u v) (d : Data) :
    DoesAsPart first count k (returnOk d u) (.next (v.atStep (first + count))) := by
  obtain ⟨hp, -, rfl⟩ := h
  refine ⟨nofun, fun _ st d' htrace => ⟨fun _ => ?_, fun hst => ?_⟩⟩
  · simp only [returnOk, deliver, State.push, State.setPhase, State.atStep, hp, List.tail_cons]
  · cases htrace
    exact absurd rfl hst

/-- A verdict carried out at both places. -/
theorem Moved.verdict (h : Moved first k u v) (c : Verdict) :
    DoesAsPart first count k (commit (c.on u)) (.next (commit ((c.on v).placed first (some (first + count))))) := by
  cases c with
  | goto j b => exact (h.load b).goes j
  | done d => exact h.ends d
  | fail e => exact h.raises e

/-- A bus action at both places, if its answers lead to the same. -/
theorem Moved.awaitBus {f g : BusAnswer → State → State} (h : Moved first k u v) (ht : awaitBus f u = .next t)
    (hfg : ∀ x rest, DoesAsPart first count k (f x (u.setBusIn rest)) (.next (g x (v.setBusIn rest)))) :
    DoesAsPart first count k t (awaitBus g v) := by
  obtain ⟨hb, rfl⟩ | ⟨x, rest, hb, rfl⟩ | ⟨x, rest, hb, rfl⟩ := awaitBus_cases ht
  · rw [awaitBus_nil (h.busIn.trans hb)]
    exact h.waits
  · rw [awaitBus_late (h.busIn.trans hb)]
    exact (h.setBusIn rest).waits
  · rw [awaitBus_answer (h.busIn.trans hb)]
    exact hfg x rest

/-- A delay at both places. -/
theorem Moved.delayFor {ms : BitVec 10} {f g : State → Next} (h : Moved first k u v) (ht : delayFor ms f u = .next t)
    (hfg : ∀ rest, DoesAsPart first count k (commit (f ((u.setDlyIn rest).push (.dly ms))))
      (.next (commit (g ((v.setDlyIn rest).push (.dly ms)))))) :
    DoesAsPart first count k t (delayFor ms g v) := by
  obtain ⟨hd, rfl⟩ | ⟨rest, hd, rfl⟩ | ⟨rest, hd, rfl⟩ := delayFor_cases ht
  · rw [delayFor_nil (h.dlyIn.trans hd)]
    exact h.waits
  · rw [delayFor_late (h.dlyIn.trans hd)]
    exact (h.setDlyIn rest).waits
  · rw [delayFor_done (h.dlyIn.trans hd)]
    exact hfg rest

/-- A row of a part, carried out at both places. -/
theorem Moved.perform {s : State} {op : Op} {r : Row} (h : Moved first k u v) (hr : RowOk s op k r) (hnew : op ≠ .new)
    (hread : op ≠ .read) (ht : perform r u = .next t) :
    DoesAsPart first count k t (perform (r.placed first (some (first + count))) v) := by
  have hburst : r.action ≠ .burst := fun hb => hread (by simpa [hb, Reaches] using hr.reaches)
  have answered {x y : State} (hxy : Moved first k x y) :
      DoesAsPart first count k (commit (r.onAnswer x))
        (.next (commit ((r.onAnswer y).placed first (some (first + count))))) := by
    obtain ⟨c, hx, hy⟩ := hr.verdict hburst (fun he => hnew he.1) (hxy.sameLatches op) hxy.sameT
    rw [hx, hy]
    exact hxy.verdict c
  unfold Machine.perform at ht ⊢
  cases hact : r.action with
  | burst => exact absurd hact hburst
  | read a =>
    simp only [hact, Row.placed] at ht ⊢
    refine h.awaitBus ht fun x rest => ?_
    split
    · exact answered (((h.setBusIn rest).push _).load _)
    · exact ((h.setBusIn rest).push _).raises _
  | write a b =>
    simp only [hact, Row.placed] at ht ⊢
    refine h.awaitBus ht fun x rest => ?_
    split
    · exact answered ((h.setBusIn rest).push _)
    · exact ((h.setBusIn rest).push _).raises _
  | delay ms =>
    simp only [hact, Row.placed] at ht ⊢
    exact h.delayFor ht fun rest => answered ((h.setDlyIn rest).push _)

end moved

end Sys2Proof.Machine

section
open Sys2Proof Sys2Proof.Machine

/-- Settles O49: NEW's row is the part's row, placed (`newHolds_part`), and a row does at both places the same
(`Moved.perform`). -/
theorem newIsTheConcatenationOfItsParts : Obligations.NewIsTheConcatenationOfItsParts := by
  intro s t op first count k hpart hk hrst hpwr ht
  have hholds : newTable s (first + k) = _ := newHolds_part hpart hpwr k hk
  obtain ⟨hnew, hread⟩ : op ≠ .new ∧ op ≠ .read := by
    constructor <;> rintro rfl <;> simp at hpart
  have hmoved : Moved first k (s.inRun op k) (s.inRun .new (first + k)) := ⟨rfl, rfl, rfl⟩
  replace ht : step (s.inRun op k) = .next t := ht
  show DoesAsPart first count k t (step (s.inRun .new (first + k)))
  rw [step_inRun hrst] at ht
  rw [step_inRun hrst, tableOf, hholds]
  cases hr : tableOf op s k with
  | none => rw [hr] at ht; cases ht
  | some r =>
    rw [hr] at ht
    exact hmoved.perform (tableOf_ok hr) hnew hread ht

end
end

section
/-! What it means that a row of a step table carries out a program of external actions, and one rule for each action: the outstanding
row has that action, and what it does with each answer carries out what follows in the program. -/

namespace Sys2Proof.Machine

open Sys2Proof.Params Sys2Proof.Codec Sys2Proof.Pseudo

/-- A one-bit field is 1 when it is not 0. -/
theorem isSet_iff_ne_zero {F : FieldName} (b : Byte) (hw : (fieldPos F).width = 1) :
    isSet b (fieldPos F) = true ↔ ¬ extract b (fieldPos F) = 0 := by
  have h (c : BitVec (fieldPos F).width) : (c == 1#(fieldPos F).width) = true ↔ ¬ c = 0 := by
    revert c
    rw [hw]
    decide
  exact h _

/-! ### Ends of operations -/

/-- From `s` the operation `op` runs to the end `e` of its pseudocode, `tr` being the trace so far. -/
def Finishes (op : Op) (tr : List TraceItem) (s : State) (e : Ending) : Prop :=
  ∃ n t, steps n s = .next t ∧ t.phase = .idle ∧ t.trace = .rsp e.status e.data :: (e.items.reverse ++ tr) ∧
    t.busIn = e.rest.map .answer ∧ t.hvalid = (op != .new || decide (e.status = .ok))

/-- One action more before the end. -/
theorem Finishes.after {op : Op} {tr : List TraceItem} {s u : State} {e : Ending} {i : TraceItem} (hstep : step s = .next u)
    (h : Finishes op (i :: tr) u e) : Finishes op tr s (e.after i) := by
  obtain ⟨n, t, hrun, hp, htrace, hend⟩ := h
  exact ⟨n + 1, t, steps_succ_next.mpr ⟨u, hstep, hrun⟩, hp, by simpa [Ending.after] using htrace, hend⟩

/-- `s` runs `op` with the latches of `l`, with the answers `xs` and `m` "done"s waiting, and without block reset. -/
structure InOp (l : State) (op : Op) (xs : List BusAnswer) (m : Nat) (s : State) : Prop where
  run : s.phase = .run
  sameOp : s.seq.op = op
  noReset : s.rst = false
  latches : SameLatches op s l
  handle : s.hvalid = (op != .new)
  bus : s.busIn = xs.map .answer
  dly : s.dlyIn = List.replicate m .done

section InOp
variable {l s : State} {op : Op} {x : BusAnswer} {xs : List BusAnswer} {m k : Nat}

theorem InOp.setBusIn (h : InOp l op (x :: xs) m s) : InOp l op xs m (s.setBusIn (xs.map .answer)) :=
  ⟨h.run, h.sameOp, h.noReset, h.latches, h.handle, rfl, h.dly⟩

theorem InOp.setDlyIn (h : InOp l op xs (m + 1) s) : InOp l op xs m (s.setDlyIn (List.replicate m .done)) :=
  ⟨h.run, h.sameOp, h.noReset, h.latches, h.handle, h.bus, rfl⟩

theorem InOp.push (h : InOp l op xs m s) (i : TraceItem) : InOp l op xs m (s.push i) :=
  ⟨h.run, h.sameOp, h.noReset, h.latches, h.handle, h.bus, h.dly⟩

theorem InOp.load (h : InOp l op xs m s) (v : Byte) : InOp l op xs m (s.load v) :=
  ⟨h.run, h.sameOp, h.noReset, h.latches, h.handle, h.bus, h.dly⟩

theorem InOp.setAcc (h : InOp l op xs m s) (v : Data) : InOp l op xs m (s.setAcc v) :=
  ⟨h.run, h.sameOp, h.noReset, h.latches, h.handle, h.bus, h.dly⟩

theorem InOp.atStep (h : InOp l op xs m s) (k : Nat) : InOp l op xs m (s.atStep k) :=
  ⟨h.run, h.sameOp, h.noReset, h.latches, h.handle, h.bus, h.dly⟩

/-- The step is the row of the table that `T` and the latches give. -/
theorem InOp.step (h : InOp l op xs m s) (hk : s.seq.step = k) {r : Row} (hr : tableOf op (l.load s.t) k = some r) :
    step s = perform r s := by
  obtain rfl := h.sameOp
  subst hk
  rw [step_atRow ⟨h.run, rfl⟩ h.noReset, tableOf_congr (y := l.load s.t) h.latches rfl, hr]
  rfl

theorem InOp.returns (h : InOp l op xs m s) (hop : op ≠ .new) (v : Data) :
    Finishes op s.trace (returnOk v s) ⟨[], .ok, v, xs⟩ :=
  ⟨0, _, rfl, rfl, rfl, h.bus, by simp [h.handle, hop]⟩

theorem InOp.raises (h : InOp l op xs m s) (e : Err) :
    Finishes op s.trace (raise e s) ⟨[], errStatus e, errData e, xs⟩ :=
  ⟨0, _, rfl, rfl, rfl, h.bus, by cases e <;> simp [h.handle, errStatus]⟩

end InOp

/-! ### Programs carried out by rows -/

/-- Row `k` of `op`, with the latches of `l` and `T` = `b`, carries out the program `p`. Each bus answer of the program comes with a
"done" at the delay port, and `d` more wait there. -/
def CarriesOut (l : State) (op : Op) (d k : Nat) (b : Byte) (p : Prog) : Prop :=
  ∀ s xs m e, InOp l op xs m s → s.seq.step = k → s.t = b → xs.length + d ≤ m → p.eval xs = some e → Finishes op s.trace s e

/-- What a row does once its answer is in carries out the program. -/
inductive Leads (l : State) (op : Op) (d : Nat) : Next → Prog → Prop
  | row {k : Nat} {u : State} {p : Prog} (h : CarriesOut l op d k u.t p) : Leads l op d (.row k u) p
  | ret {v : Data} {u : State} (hop : op ≠ .new := by decide) : Leads l op d (.ret v u) (.ret v)
  | err {e : Err} {u : State} : Leads l op d (.err e u) (.err e)

section rules
variable {l : State} {op : Op} {d k k' : Nat} {b a : Byte} {f : State → Next}

theorem CarriesOut.weaken {p : Prog} (h : CarriesOut l op 0 k b p) : CarriesOut l op 1 k b p :=
  fun s xs m e hs hk ht hm => h s xs m e hs hk ht (by omega)

/-- A row that needs no "done" is next. -/
theorem Leads.next {u : State} {p : Prog} (h : CarriesOut l op 0 k u.t p) : Leads l op 1 (.row k u) p := .row h.weaken

/-- A row's "on answer" column, carried out after the answer. -/
theorem Leads.finishes {r : Row} {u : State} {xs : List BusAnswer} {m : Nat} {p : Prog} {e : Ending}
    (hrow : tableOf op (l.load b) k = some r) (hburst : r.action ≠ .burst) (h : Leads l op d (r.onAnswer (l.load u.t)) p)
    (hu : InOp l op xs m u) (hm : xs.length + d ≤ m) (he : p.eval xs = some e) :
    Finishes op u.trace (commit (r.onAnswer u)) e := by
  have hend : ¬ (op = .new ∧ k = 27) := by
    rintro ⟨rfl, rfl⟩
    cases hrow
    cases h with
    | ret hop => exact hop rfl
  obtain ⟨c, hc, hl⟩ := (tableOf_ok hrow).verdict (y := l.load u.t) hburst hend hu.latches rfl
  rw [hl] at h
  rw [hc]
  cases c with
  | goto j v =>
    cases h with
    | row h => exact h _ xs m e ((hu.load v).atStep j) rfl rfl hm he
  | done v =>
    cases h with
    | ret hop =>
      cases he
      exact hu.returns hop v
  | fail err =>
    cases h
    cases he
    exact hu.raises err

/-- A row whose action is a bus transaction carries out a program that begins with it: a transport error ends both alike
(60_exceptions R216), and on success what the row does (`g`) carries out what follows in the program (`q`). -/
theorem CarriesOut.transaction {r : Row} {p : Prog} {q : BusAnswer → Prog} {i j : BusAnswer → TraceItem}
    {g : BusAnswer → State → State} (hrow : tableOf op (l.load b) k = some r)
    (hperform : perform r = awaitBus fun x u => if x.ok then g x u else raise (.transport x.errk) (u.push (j x)))
    (hnil : p.eval [] = none)
    (hcons : ∀ x xs, p.eval (x :: xs) =
      if x.ok then ((q x).eval xs).map (Ending.after (i x)) else some (failed (j x) x.errk xs))
    (hok : ∀ x u xs m e, InOp l op xs m u → u.t = b → xs.length + 1 ≤ m → (q x).eval xs = some e →
      Finishes op (i x :: u.trace) (g x u) e) :
    CarriesOut l op 0 k b p := by
  intro s xs m e hs hk ht hm he
  subst ht
  cases xs with
  | nil =>
    rw [hnil] at he
    cases he
  | cons x xs =>
    have hstep := (hs.step hk hrow).trans (by rw [hperform, awaitBus_answer hs.bus])
    rw [hcons] at he
    split at he
    · next hx =>
      obtain ⟨e', he', rfl⟩ := Option.map_eq_some_iff.mp he
      rw [if_pos hx] at hstep
      exact .after hstep (hok x _ xs m e' hs.setBusIn rfl hm he')
    · next hx =>
      cases he
      rw [if_neg hx] at hstep
      exact .after hstep ((hs.setBusIn.push _).raises _)

theorem CarriesOut.read {p : Byte → Prog} (hrow : tableOf op (l.load b) k = some ⟨.read a, f⟩)
    (h : ∀ v, Leads l op 1 (f (l.load v)) (p v)) : CarriesOut l op 0 k b (.read a p) :=
  .transaction hrow rfl rfl (fun _ _ => rfl) fun x _ _ _ _ hu _ hm he =>
    (h x.rb0).finishes hrow nofun ((hu.push _).load _) hm he

theorem CarriesOut.write {p : Prog} (hrow : tableOf op (l.load b) k = some ⟨.write a b, f⟩)
    (h : Leads l op 1 (f (l.load b)) p) : CarriesOut l op 0 k b (.write a b p) :=
  .transaction hrow rfl rfl (fun _ _ => rfl) fun _ u _ _ _ hu ht hm he =>
    Leads.finishes (u := u.push _) hrow nofun (ht ▸ h) (hu.push _) hm he

/-- A delay uses up the "done" that came with the bus answer before it. -/
theorem CarriesOut.delay {ms : BitVec 10} {p : Prog} (hrow : tableOf op (l.load b) k = some ⟨.delay ms, f⟩)
    (h : Leads l op 0 (f (l.load b)) p) : CarriesOut l op 1 k b (.delay ms p) := by
  intro s xs m e hs hk ht hm he
  subst ht
  cases m with
  | zero => omega
  | succ m =>
    simp only [Prog.eval, Option.map_eq_some_iff] at he
    obtain ⟨e, he, rfl⟩ := he
    refine .after ((hs.step hk hrow).trans (delayFor_done hs.dly)) ?_
    exact Leads.finishes hrow nofun h (hs.setDlyIn.push _) (by omega) he

/-- The two rows of a read-modify-write (41_primitives R153). -/
theorem CarriesOut.rmw {g : Byte → Byte} {f' : Byte → State → Next} {p : Prog}
    (hread : ∀ b, tableOf op (l.load b) k = some ⟨.read a, f⟩) (hedit : ∀ v, f (l.load v) = .row k' (l.load (g v)))
    (hwrite : ∀ b, tableOf op (l.load b) k' = some ⟨.write a b, f' b⟩) (h : ∀ b, Leads l op 1 (f' b (l.load b)) p) (b : Byte) :
    CarriesOut l op 0 k b (Pseudo.rmw a g p) :=
  .read (hread b) fun v => hedit v ▸ .next (.write (hwrite (g v)) (h (g v)))

/-- A row that returns the program's number. -/
theorem Leads.returns {v w : Data} {u : State} (h : v = w) (hop : op ≠ .new := by decide) :
    Leads l op d (.ret v u) (.ret w) := h ▸ .ret hop

/-- A row whose other branch is dead. -/
theorem Leads.always {c : Bool} {n n' : Next} {p : Prog} (hc : c = true) (h : Leads l op d n p) :
    Leads l op d (if c then n else n') p := by
  rw [if_pos hc]
  exact h

/-- A row that decides as the program does. -/
theorem Leads.branch {c : Bool} {q : Prop} [Decidable q] {n n' : Next} {p p' : Prog} (hc : c = true ↔ q) (h : Leads l op d n p)
    (h' : Leads l op d n' p') : Leads l op d (if c then n else n') (if q then p else p') := by
  by_cases hq : q
  · rw [if_pos hq, if_pos (hc.mpr hq)]
    exact h
  · rw [if_neg hq, if_neg (mt hc.mp hq)]
    exact h'

/-- A row that decides as the program does, the other way round. -/
theorem Leads.branch_not {c : Bool} {q : Prop} [Decidable q] {n n' : Next} {p p' : Prog} (hc : c = true ↔ ¬ q)
    (h : Leads l op d n p) (h' : Leads l op d n' p') : Leads l op d (if c then n' else n) (if q then p else p') := by
  rw [← ite_not (p := q)]
  exact .branch hc h' h

/-- A row that asks for a flag of the byte read, where the program asks whether it is 0. -/
theorem Leads.flag (F : FieldName) {n n' : Next} {p p' : Prog} (hF : (fieldPos F).width = 1) (h : Leads l op d n p)
    (h' : Leads l op d n' p') :
    Leads l op d (if isSet b (fieldPos F) then n' else n) (if extract b (fieldPos F) = 0 then p else p') :=
  .branch_not (isSet_iff_ne_zero b hF) h h'

/-- The readiness check of a part (60_exceptions R217). -/
theorem Leads.ready {first : Nat} {fin : Option Nat} {u : State} {n : Next} {p : Prog}
    (h : Leads l op d (n.placed first fin) p) :
    Leads l op d ((requireReady u n).placed first fin)
      (if extract u.t (fieldPos .pur) = 0 then .err .notReady else p) := by
  rw [placed_requireReady]
  exact .flag .pur rfl .err h

end rules

/-! ### The parts that commands share -/

/-- Rows `first` to `first + count - 1` of `op` are the table `part`, placed. -/
def Holds (l : State) (op : Op) (part : State → Nat → Option Row) (first count : Nat) (fin : Option Nat) : Prop :=
  ∀ k < count, ∀ b, tableOf op (l.load b) (first + k) = (part (l.load b) k).map (Row.placed first fin)

/-- A command of its own holds its own table. -/
theorem holds_alone (l : State) (op : Op) (count : Nat) : Holds l op (tableOf op) 0 count none := by
  have hnext (n : Next) : n.placed 0 none = n := by
    cases n with
    | row k s => exact congrArg (Next.row · s) (Nat.zero_add k)
    | _ => rfl
  have hrow : Row.placed 0 none = id := funext fun r => congrArg (Row.mk r.action) (funext fun s => hnext (r.onAnswer s))
  intro k _ b
  rw [hrow, Option.map_id_apply, Nat.zero_add]

/-- NEW holds the tables of its parts. -/
theorem NewHolds.holds {part : State → Nat → Option Row} {first count : Nat} (h : ∀ s, NewHolds s part first count) (l : State) :
    Holds l .new part first count (some (first + count)) :=
  fun k hk b => h (l.load b) k hk

section parts
variable {l : State} {op : Op} {first : Nat} {fin : Option Nat} {p : Prog}

/-- RESET's rows, whatever its end goes on to. -/
theorem carriesOut_reset (ht : Holds l op resetTable first 7 fin)
    (hend : ∀ b, Leads l op 1 (Next.placed first fin (.ret 0 (l.load b))) p) :
    ∀ b, CarriesOut l op 0 first b (Pseudo.reset p) := by
  refine .rmw (ht 0 (by decide)) (fun _ => rfl) (ht 1 (by decide)) fun b => .row ?_
  refine .delay (ht 2 (by decide) b) (.row ?_)
  refine .rmw (ht 3 (by decide)) (fun _ => rfl) (ht 4 (by decide)) (fun b => .row ?_) b
  refine .delay (ht 5 (by decide) b) (.row ?_)
  exact .read (ht 6 (by decide) b) fun v => .ready (hend v)

/-- The rows of ENABLE with operand 1. -/
theorem carriesOut_powerUp (ht : Holds l op powerUpTable first 6 fin)
    (hend : ∀ b, Leads l op 1 (Next.placed first fin (.ret 0 (l.load b))) p) :
    ∀ b, CarriesOut l op 0 first b (Pseudo.enable true p) := by
  refine .rmw (ht 0 (by decide)) (fun _ => rfl) (ht 1 (by decide)) fun b => .row ?_
  refine .delay (ht 2 (by decide) b) (.row ?_)
  refine .rmw (ht 3 (by decide)) (fun _ => rfl) (ht 4 (by decide)) (fun b => .next ?_) b
  exact .read (ht 5 (by decide) b) fun v => .ready (hend v)

/-- The rows of SET_LDO: with External the part ends at row 1. -/
theorem carriesOut_setLdo (ht : Holds l op setLdoTable first 4 fin)
    (hend : ∀ b, Leads l op 1 (Next.placed first fin (.ret 0 (l.load b))) p) :
    ∀ b, CarriesOut l op 0 first b (Pseudo.setLdo l.aLdo p) := by
  have edit {k : Nat} {c : BitVec 1} (hc : (if l.aLdo = 8 then 0 else 1) = c) (v : Byte) :
      Next.row k ((l.load v).setField .avdds (ofBool 1 (l.aLdo != encLdo .ext))) =
        .row k (l.load (insert v (fieldPos .avdds) c)) := by
    rw [avddsOf_eq, hc]
    rfl
  rw [Pseudo.setLdo]
  split
  · next hext =>
    exact .rmw (ht 0 (by decide)) (edit (if_pos hext))
      (fun b => (ht 1 (by decide) b).trans (congrArg _ (if_pos hext))) hend
  · next hint =>
    refine .rmw (ht 0 (by decide)) (edit (if_neg hint))
      (fun b => (ht 1 (by decide) b).trans (congrArg _ (if_neg hint))) fun b => .next ?_
    exact .rmw (fun b => (ht 2 (by decide) b).trans (congrArg _ (if_neg hint))) (fun _ => rfl)
      (fun b => (ht 3 (by decide) b).trans (congrArg _ (if_neg hint))) hend b

/-- The rows of SET_GAIN. -/
theorem carriesOut_setGain (ht : Holds l op setGainTable first 2 fin)
    (hend : ∀ b, Leads l op 1 (Next.placed first fin (.ret 0 (l.load b))) p) :
    ∀ b, CarriesOut l op 0 first b (Pseudo.setGain l.aGain p) :=
  .rmw (ht 0 (by decide)) (fun _ => rfl) (ht 1 (by decide)) hend

/-- The rows of SET_RATE. -/
theorem carriesOut_setRate (ht : Holds l op setRateTable first 2 fin)
    (hend : ∀ b, Leads l op 1 (Next.placed first fin (.ret 0 (l.load b))) p) :
    ∀ b, CarriesOut l op 0 first b (Pseudo.setRate l.aRate p) :=
  .rmw (ht 0 (by decide)) (fun _ => rfl) (ht 1 (by decide)) hend

end parts

/-! ### The operations -/

section operations
variable (l : State)

/-- NEW's last write, which sets `HVALID` (10_state R27). -/
theorem carriesOut_newEnd (b : Byte) : CarriesOut l .new 0 27 b (.write 0x1C b (.ret 0)) := by
  refine .transaction (g := fun _ u => returnOk 0 ((u.push (.wr 0x1C b)).setHandle true)) rfl rfl rfl (fun _ _ => rfl)
    fun _ _ _ _ _ hu _ _ he => ?_
  cases he
  exact ⟨0, _, rfl, rfl, rfl, hu.bus, rfl⟩

/-- NEW (R165): its five parts, the revision check among them, and three read-modify-writes of its own. -/
theorem carriesOut_new : ∀ b, CarriesOut l .new 0 0 b (Pseudo.new l.aLdo l.aGain l.aRate) := by
  have row (k : Nat) (b : Byte) : tableOf .new (l.load b) k = newTable (l.load b) k := rfl
  refine carriesOut_reset (NewHolds.holds newHolds_reset l) fun b => .next ?_
  refine carriesOut_powerUp (NewHolds.holds newHolds_powerUp l) (fun b => .next ?_) b
  refine .read rfl fun v => ?_
  refine .branch_not ((revOk_iff v).trans not_not.symm) .err (.next ?_)
  refine carriesOut_setLdo (NewHolds.holds newHolds_setLdo l) (fun b => .next ?_) _
  refine carriesOut_setGain (NewHolds.holds newHolds_setGain l) (fun b => .next ?_) b
  refine carriesOut_setRate (NewHolds.holds newHolds_setRate l) (fun b => .next ?_) b
  refine .rmw (row 22) (fun _ => rfl) (row 23) (fun b => .next ?_) b
  refine .rmw (row 24) (fun _ => rfl) (row 25) (fun b => .next ?_) b
  exact .read rfl fun v => .next (carriesOut_newEnd l _)

theorem carriesOut_enable (b : Byte) : CarriesOut l .enable 0 0 b (Pseudo.enable l.aPwr (.ret 0)) := by
  cases hpwr : l.aPwr with
  | true =>
    have ht : Holds l .enable powerUpTable 0 6 none := fun k hk b =>
      (holds_alone l .enable 6 k hk b).trans (congrArg _ (if_pos hpwr))
    exact carriesOut_powerUp ht (fun _ => .ret) b
  | false =>
    have ht (k : Nat) (b : Byte) : tableOf .enable (l.load b) k = powerDownTable (l.load b) k :=
      if_neg (by simp [hpwr])
    exact .rmw (ht 0) (fun _ => rfl) (ht 1) (fun _ => .ret) b

theorem carriesOut_available (b : Byte) : CarriesOut l .available 0 0 b Pseudo.available := by
  have hflag (c : BitVec 1) : ofBool 32 (c == 1) = c.setWidth 32 := by decide +revert
  exact .read rfl fun v => .returns (hflag (extract v (fieldPos .cr)))

/-- The number that a burst's answer stands for (43_readout R181). -/
def burstResult (x : BusAnswer) : Data := sext24 (assemble24 x.rb0 x.rb1 x.rb2)

/-- READ: the one burst of the machine. -/
theorem carriesOut_read (b : Byte) : CarriesOut l .read 0 0 b readOut := by
  refine .transaction (g := fun x u => returnOk (burstResult x) (((u.push (.rd3 0x12 x.rb0 x.rb1 x.rb2)).setAcc
    (assemble24 x.rb0 x.rb1 x.rb2)).setAcc (burstResult x))) (q := fun x => .ret (burstResult x)) rfl rfl rfl (fun _ _ => rfl)
    fun _ _ _ _ _ hu _ _ he => ?_
  cases he
  exact (((hu.push _).setAcc _).setAcc _).returns nofun _

theorem carriesOut_getLdo (b : Byte) : CarriesOut l .getLdo 0 0 b Pseudo.getLdo :=
  .read rfl fun _ => .flag .avdds rfl .ret (.next (.read rfl fun _ => .ret))

/-- The raising branch of the table is dead: every gain code has a member (44_config R193). -/
theorem carriesOut_getGain (b : Byte) : CarriesOut l .getGain 0 0 b Pseudo.getGain :=
  .read rfl fun _ => .always (decGain_isSome _) .ret

theorem carriesOut_getRate (b : Byte) : CarriesOut l .getRate 0 0 b Pseudo.getRate :=
  .read rfl fun _ => .branch_not (decRate_isSome _) .err .ret

/-- The poll loop of CALIBRATE: row 2, and the delay of row 3 that goes back to it. -/
theorem carriesOut_poll : ∀ (fuel : Nat) (b : Byte), CarriesOut l .calibrate 0 2 b (poll fuel)
  | 0, _ => fun _ _ _ _ _ _ _ _ he => nomatch he
  | fuel + 1, _ => .read rfl fun v => .flag .cals rfl (.branch (isSet_eq_true_iff v) .err .ret)
      (.row (.delay rfl (.row (carriesOut_poll fuel _))))

theorem carriesOut_calibrate (fuel : Nat) (b : Byte) : CarriesOut l .calibrate 0 0 b (Pseudo.calibrate l.aMode fuel) := by
  have row (k : Nat) (b : Byte) : tableOf .calibrate (l.load b) k = calibrateTable (l.load b) k := rfl
  exact .rmw (row 0) (fun _ => rfl) (row 1) (fun _ => .next (carriesOut_poll l fuel _)) b

/-- Row 0 of every operation carries out the pseudocode of the command in progress. -/
theorem carriesOut_progOf {fuel : Nat} {p : Prog} (h : progOf fuel (running l) = some p) (b : Byte) :
    CarriesOut l l.seq.op 0 0 b p := by
  unfold running at h
  cases hop : l.seq.op <;> rw [hop] at h <;> cases h
  case new => exact carriesOut_new l b
  case reset => exact carriesOut_reset (holds_alone l .reset 7) (fun _ => .ret) b
  case enable => exact carriesOut_enable l b
  case available => exact carriesOut_available l b
  case read => exact carriesOut_read l b
  case setLdo => exact carriesOut_setLdo (holds_alone l .setLdo 4) (fun _ => .ret) b
  case getLdo => exact carriesOut_getLdo l b
  case setGain => exact carriesOut_setGain (holds_alone l .setGain 2) (fun _ => .ret) b
  case getGain => exact carriesOut_getGain l b
  case setRate => exact carriesOut_setRate (holds_alone l .setRate 2) (fun _ => .ret) b
  case getRate => exact carriesOut_getRate l b
  case calibrate => exact carriesOut_calibrate l fuel b

end operations

/-- The pseudocode of NEW_DEFAULT is that of the NEW it stands for (R166). -/
theorem progOf_expand (fuel : Nat) (i : Instr) : progOf fuel i.expand = progOf fuel i := by
  cases i <;> rfl

end Sys2Proof.Machine

section
open Sys2Proof Sys2Proof.Machine

/-- Settles O48: the command is accepted, and row 0 of its operation carries out its pseudocode (`carriesOut_progOf`). -/
theorem operationsFollowTheirPseudocode : Obligations.OperationsFollowTheirPseudocode := by
  intro i op p fuel s xs m e hop hwf hp hidle hrst hh hbus hdly hm he
  have hacc : acceptable i op s = true := by simpa [acceptable, hwf] using hh
  have hexec : exec i s = .next (accepted i op s) := by rw [exec_idle hop hidle, if_pos hacc]
  have hin : InOp (accepted i op s) op xs m (accepted i op s) :=
    ⟨rfl, rfl, by simpa using hrst, .refl _ _, rfl, by simpa using hbus, by simpa using hdly⟩
  have hcarries := carriesOut_progOf (accepted i op s) (fuel := fuel) (p := p)
    (by rw [running_accepted hop, progOf_expand, hp]) (accepted i op s).t
  obtain ⟨n, t, hrun, hend, htrace, hrest, hhandle⟩ := hcarries _ xs m e hin rfl rfl hm he
  refine ⟨_, n, t, hexec, hrun, hend, by simpa using htrace, hrest, ?_⟩
  by_cases hnew : op = .new
  · simp [hhandle, hnew]
  · simp [hhandle, hnew, hh.resolve_left hnew]

end
end

section
/-! The two read-out commands (43_readout): each is one row, a read or a burst whose answer is returned at once. -/

namespace Sys2Proof.Codec

/-- The bytes of a burst, put one after another, are their value in base 256. -/
theorem toNat_append24 (b0 b1 b2 : Byte) :
    (b0 ++ b1 ++ b2 : BitVec 24).toNat = b0.toNat * 65536 + b1.toNat * 256 + b2.toNat := by
  rw [BitVec.toNat_append, BitVec.toNat_append, ← Nat.shiftLeft_add_eq_or_of_lt b1.isLt,
    ← Nat.shiftLeft_add_eq_or_of_lt b2.isLt]
  omega

/-- The assembled word is the three bytes one after another, with zeros above. -/
theorem assemble24_eq_append (b0 b1 b2 : Byte) : assemble24 b0 b1 b2 = (b0 ++ b1 ++ b2 : BitVec 24).setWidth 32 := by
  refine BitVec.eq_of_toNat_eq ?_
  rw [toNat_assemble24, BitVec.toNat_setWidth_of_le (by decide), toNat_append24]

/-- The result of a conversion (40_codec R140, R141) is its 24-bit number sign-extended. -/
theorem sext24_assemble24 (b0 b1 b2 : Byte) :
    sext24 (assemble24 b0 b1 b2) = (b0 ++ b1 ++ b2 : BitVec 24).signExtend 32 := by
  have hlt : (assemble24 b0 b1 b2).toNat < 2 ^ 24 := by
    rw [toNat_assemble24, ← toNat_append24]
    exact BitVec.isLt _
  rw [sext24_eq_signExtend hlt, assemble24_eq_append, BitVec.setWidth_setWidth_of_le _ (by decide), BitVec.setWidth_eq]

end Sys2Proof.Codec

namespace Sys2Proof.Machine

open Sys2Proof.Params Sys2Proof.Codec

/-- A one-bit field read as a flag and returned is the field with zeros above. -/
theorem ofBool_one_eq_setWidth (c : BitVec 1) : ofBool 32 (c == 1) = c.setWidth 32 := by decide +revert

section rows
variable {s : State} {op : Op} {k : Nat} {i : Instr} {a : Byte} {x : BusAnswer} {rest : List BusIn} {f : State → Next}

/-- An answered read whose row returns `d`. -/
theorem exec_returnRow {d : Data} (h : AtRow s op k) (hi : running s = i) (hr : tableOf op s k = some ⟨.read a, f⟩)
    (hb : s.busIn = .answer x :: rest) (hx : x.ok = true)
    (hd : f (loaded s a x.rb0 rest) = .ret d (loaded s a x.rb0 rest)) :
    exec i s = .next (endedByRead s a x rest .ok d) := by
  rw [exec_read h hi hr hb hx, hd]
  rfl

/-- The answered burst: it is carried out as its row says, on the bytes assembled in `ACC`. -/
theorem exec_burst (h : AtRow s op k) (hi : running s = i) (hr : tableOf op s k = some ⟨.burst, f⟩)
    (hb : s.busIn = .answer x :: rest) (hx : x.ok = true) :
    exec i s = .next (commit (f (((s.setBusIn rest).push (.rd3 adcoB2 x.rb0 x.rb1 x.rb2)).setAcc
      (assemble24 x.rb0 x.rb1 x.rb2)))) := by
  rw [exec_atRow h hi hr, perform_burst rfl, memRead3_ok hb hx]

end rows

end Sys2Proof.Machine

section
open Sys2Proof Sys2Proof.Machine

/-- Settles O27: the one row of AVAILABLE returns the flag of the byte read. -/
theorem availableReturnsTheFlag : Obligations.AvailableReturnsTheFlag := by
  intro s x rest h hb hx
  exact exec_returnRow h (running_of_atRow h) rfl hb hx
    (congrArg (Next.ret · _) (ofBool_one_eq_setWidth (Codec.extract x.rb0 (Params.fieldPos .cr))))

/-- Settles O28: the one row of READ sign-extends what the burst has assembled, which is the number of the three bytes. -/
theorem readReturnsTheSignedResult : Obligations.ReadReturnsTheSignedResult := by
  intro s x rest h hb hx
  have hrun : running s = .read := running_of_atRow h
  rw [exec_burst h hrun rfl hb hx, commit, State.setAcc_acc, returnOk_burst, Codec.sext24_assemble24]
  rfl

end
end

section
/-! The configuration commands (44_config): each setter reads a register, edits a field of `T` and writes it back; each getter
returns the field that it has read. -/

namespace Sys2Proof.Codec

/-- The codes that GET_RATE returns are all but the three reserved ones (44_config R195). -/
theorem decRate_isSome_iff_not_reserved (c : BitVec 3) : (decRate c).isSome = true ↔ ¬ c.toNat ∈ [4, 5, 6] :=
  Option.isSome_iff_ne_none.trans (not_congr (decRate_eq_none c))

end Sys2Proof.Codec

namespace Sys2Proof.Machine

/-- An answered read whose row branches on the byte read, the test said as the failure of `q`. -/
theorem exec_branchRow {s : State} {op : Op} {k : Nat} {i : Instr} {a : Byte} {x : BusAnswer} {rest : List BusIn}
    {f : State → Next} {c : Bool} {q : Prop} [Decidable q] {n n' : Next} (h : AtRow s op k) (hi : running s = i)
    (hr : tableOf op s k = some ⟨.read a, f⟩) (hb : s.busIn = .answer x :: rest) (hx : x.ok = true)
    (hf : f (loaded s a x.rb0 rest) = if c then n' else n) (hc : c = true ↔ ¬ q) :
    exec i s = .next (if q then commit n else commit n') := by
  rw [exec_read h hi hr hb hx, hf]
  by_cases hq : q
  · rw [if_neg (fun h => hc.mp h hq), if_pos hq]
  · rw [if_pos (hc.mpr hq), if_neg hq]

end Sys2Proof.Machine

section
open Sys2Proof Sys2Proof.Machine

/-- Settles O29, row by row; rows 1 to 3 of the table depend on whether the reference is External. -/
theorem setLdoRows : Obligations.SetLdoRows := by
  rintro s x rest _ hb hx rfl
  have running_setLdo {k : Nat} (h : AtRow s .setLdo k) : running s = .setLdo s.aLdo := running_of_atRow h
  refine ⟨fun h => ?_, fun h hext => ?_, fun h hint => ?_, fun h hint => ?_, fun h hint => ?_⟩
  · exact avddsOf_eq s.aLdo ▸ exec_readRow h (running_setLdo h) rfl hb hx rfl
  · exact exec_lastWriteRow h (running_setLdo h) (if_pos hext) hb hx
  · exact exec_writeRow h (running_setLdo h) (if_neg hint) hb hx
  · exact exec_readRow h (running_setLdo h) (if_neg hint) hb hx rfl
  · exact exec_lastWriteRow h (running_setLdo h) (if_neg hint) hb hx

/-- Settles O30: row 0 branches on the enable bit alone, row 1 returns the selector. -/
theorem getLdoRows : Obligations.GetLdoRows := by
  intro s x rest hb hx
  have running_getLdo {k : Nat} (h : AtRow s .getLdo k) : running s = .getLdo := running_of_atRow h
  refine ⟨fun h => ?_, fun h => ?_⟩
  · exact exec_branchRow h (running_getLdo h) rfl hb hx rfl (isSet_iff_ne_zero (F := .avdds) x.rb0 rfl)
  · exact exec_returnRow h (running_getLdo h) rfl hb hx rfl

/-- Settles O31, row by row. -/
theorem setGainRows : Obligations.SetGainRows := by
  rintro s x rest _ hb hx rfl
  have running_setGain {k : Nat} (h : AtRow s .setGain k) : running s = .setGain s.aGain := running_of_atRow h
  refine ⟨fun h => ?_, fun h => ?_⟩
  · exact exec_readRow h (running_setGain h) rfl hb hx rfl
  · exact exec_lastWriteRow h (running_setGain h) rfl hb hx

/-- Settles O32: every gain code has a member, so the raising branch of the row is never taken. -/
theorem getGainReturnsTheCode : Obligations.GetGainReturnsTheCode := by
  intro s x rest h hb hx
  exact exec_returnRow h (running_of_atRow h) rfl hb hx (if_pos (Codec.decGain_isSome _))

/-- Settles O33, row by row. -/
theorem setRateRows : Obligations.SetRateRows := by
  rintro s x rest _ hb hx rfl
  have running_setRate {k : Nat} (h : AtRow s .setRate k) : running s = .setRate s.aRate := running_of_atRow h
  refine ⟨fun h => ?_, fun h => ?_⟩
  · exact exec_readRow h (running_setRate h) rfl hb hx rfl
  · exact exec_lastWriteRow h (running_setRate h) rfl hb hx

/-- Settles O34: the row branches on whether the code read has a member, which the reserved codes alone have not. -/
theorem getRateReturnsTheCodeOrRaises : Obligations.GetRateReturnsTheCodeOrRaises := by
  intro s x rest h hb hx
  exact exec_branchRow h (running_of_atRow h) rfl hb hx rfl (Codec.decRate_isSome_iff_not_reserved _)

end
end

section
/-! CALIBRATE and its poll loop (45_calibrate): row 2 polls, row 3 waits and goes back to it. -/

namespace Sys2Proof.Machine

open Sys2Proof.Params Sys2Proof.Codec

/-! ### The rows -/

/-- At a row of CALIBRATE the command in progress is CALIBRATE with the mode latched. -/
theorem running_calibrate {s : State} {k : Nat} (h : AtRow s .calibrate k) : running s = .calibrate s.aMode :=
  running_of_atRow h

/-- The status that the last poll's byte gives (60_exceptions R219). -/
def pollStatus (b : Byte) : Status := if extract b (fieldPos .calErr) = 1 then .calibrationError else .ok

/-- The answered poll: `CALS` of the byte read says whether to wait and poll again, `CAL_ERR` how to end. -/
theorem exec_pollRow {s : State} {x : BusAnswer} {rest : List BusIn} (h : AtRow s .calibrate 2)
    (hb : s.busIn = .answer x :: rest) (hx : x.ok = true) :
    exec (.calibrate s.aMode) s = .next (if extract x.rb0 (fieldPos .cals) = 1 then afterRead s 0x02 x rest x.rb0 3
      else endedByRead s 0x02 x rest (pollStatus x.rb0) 0) := by
  rw [exec_read h (running_calibrate h) rfl hb hx, State.cals, State.calErr, State.flag, State.flag, loaded, State.load_t]
  simp only [isSet_eq_true_iff, pollStatus, apply_ite commit]
  refine congrArg Host.Outcome.next (if_congr Iff.rfl ?_ ?_)
  · rfl
  · split <;> rfl

/-! ### A step at each row -/

section steps
variable {s : State} {x : BusAnswer} {rest : List BusIn} {dones : List DlyIn}

theorem step_calibrate {k : Nat} (h : AtRow s .calibrate k) (hrst : s.rst = false) :
    step s = exec (.calibrate s.aMode) s := by
  rw [← running_calibrate h]
  exact stepInRunIsTheCommandInProgress s h.1 hrst

/-- The byte written to start a calibration (R205): the byte read, with the mode and the start bit. -/
def startByte (s : State) (b : Byte) : Byte := insert (insert b (fieldPos .calmod) s.aMode) (fieldPos .cals) 1

theorem step_startRead (h : AtRow s .calibrate 0) (hrst : s.rst = false) (hb : s.busIn = .answer x :: rest)
    (hx : x.ok = true) : step s = .next (afterRead s 0x02 x rest (startByte s x.rb0) 1) := by
  rw [step_calibrate h hrst]
  exact exec_readRow h (running_calibrate h) rfl hb hx rfl

theorem step_startWrite (h : AtRow s .calibrate 1) (hrst : s.rst = false) (hb : s.busIn = .answer x :: rest)
    (hx : x.ok = true) : step s = .next (afterWrite s 0x02 rest 2) := by
  rw [step_calibrate h hrst]
  exact exec_writeRow h (running_calibrate h) rfl hb hx

/-- A poll that shows `CALS` 1. -/
theorem step_busyPoll (h : AtRow s .calibrate 2) (hrst : s.rst = false) (hb : s.busIn = .answer x :: rest)
    (hx : x.ok = true) (hcals : extract x.rb0 (fieldPos .cals) = 1) :
    step s = .next (afterRead s 0x02 x rest x.rb0 3) := by
  rw [step_calibrate h hrst, exec_pollRow h hb hx, if_pos hcals]

/-- A poll that shows `CALS` 0. -/
theorem step_lastPoll (h : AtRow s .calibrate 2) (hrst : s.rst = false) (hb : s.busIn = .answer x :: rest)
    (hx : x.ok = true) (hcals : extract x.rb0 (fieldPos .cals) = 0) :
    step s = .next (endedByRead s 0x02 x rest (pollStatus x.rb0) 0) := by
  rw [step_calibrate h hrst, exec_pollRow h hb hx, if_neg (by rw [hcals]; decide)]

theorem step_pollDelay (h : AtRow s .calibrate 3) (hrst : s.rst = false) (hd : s.dlyIn = .done :: dones) :
    step s = .next (afterDelay s 10 dones 2) := by
  rw [step_calibrate h hrst]
  exact exec_delayRow h (running_calibrate h) rfl hd

theorem afterRead_atRow {a t : Byte} {op : Op} {k k' : Nat} (h : AtRow s op k) : AtRow (afterRead s a x rest t k') op k' := by
  obtain ⟨hp, hseq⟩ := h
  exact ⟨hp, by rw [afterRead, hseq]⟩

theorem afterWrite_atRow {a : Byte} {op : Op} {k k' : Nat} (h : AtRow s op k) : AtRow (afterWrite s a rest k') op k' := by
  obtain ⟨hp, hseq⟩ := h
  exact ⟨hp, by rw [afterWrite, hseq]⟩

theorem afterDelay_atRow {ms : BitVec 10} {op : Op} {k k' : Nat} (h : AtRow s op k) : AtRow (afterDelay s ms dones k') op k' := by
  obtain ⟨hp, hseq⟩ := h
  exact ⟨hp, by rw [afterDelay, hseq]⟩

end steps

/-! ### Polls until `CALS` is 0 -/

/-- What the busy polls `busy` leave in the trace, each with the delay after it, newest first. -/
def pollItems (busy : List BusAnswer) : List TraceItem := busy.reverse.flatMap fun x => [.dly 10, .rd 0x02 x.rb0]

theorem pollItems_cons (x : BusAnswer) (busy : List BusAnswer) (l : List TraceItem) :
    pollItems (x :: busy) ++ l = pollItems busy ++ .dly 10 :: .rd 0x02 x.rb0 :: l := by
  simp [pollItems]

/-- CALIBRATE has ended from its poll row in `s` by the poll `last`, after the busy polls `busy`; `bs` and `ds` are left at the
answer ports. -/
def endedByPolls (s : State) (busy : List BusAnswer) (last : BusAnswer) (bs : List BusIn) (ds : List DlyIn) : State :=
  { s with
    phase := .idle
    seq := ⟨.calibrate, 2⟩
    t := last.rb0
    busIn := bs
    dlyIn := ds
    trace := .rsp (pollStatus last.rb0) 0 :: .rd 0x02 last.rb0 :: (pollItems busy ++ s.trace) }

/-- A busy poll and its delay before the others. -/
theorem endedByPolls_cons {s : State} {x last : BusAnswer} {busy : List BusAnswer} {rest bs : List BusIn}
    {dones ds : List DlyIn} :
    endedByPolls (afterDelay (afterRead s 0x02 x rest x.rb0 3) 10 dones 2) busy last bs ds =
      endedByPolls s (x :: busy) last bs ds := by
  rw [endedByPolls, endedByPolls, pollItems_cons]
  rfl

/-- From the poll row, `N` busy polls with their delays and one more poll are `2N + 1` steps. -/
theorem steps_polls {last : BusAnswer} {bs : List BusIn} {ds : List DlyIn} (hlast : last.ok = true)
    (hclear : extract last.rb0 (fieldPos .cals) = 0) (busy : List BusAnswer)
    (hbusy : ∀ x ∈ busy, x.ok = true ∧ extract x.rb0 (fieldPos .cals) = 1) :
    ∀ s : State, AtRow s .calibrate 2 → s.rst = false → s.busIn = busy.map .answer ++ .answer last :: bs →
      s.dlyIn = List.replicate busy.length .done ++ ds →
      steps (2 * busy.length + 1) s = .next (endedByPolls s busy last bs ds) := by
  induction busy with
  | nil =>
    intro s h hrst hb hd
    refine steps_succ_next.mpr ⟨_, step_lastPoll h hrst hb hlast hclear, ?_⟩
    obtain rfl : s.dlyIn = ds := hd
    rw [endedByPolls, ← h.2]
    rfl
  | cons x busy ih =>
    intro s h hrst hb hd
    obtain ⟨⟨hx, hcals⟩, hbusy⟩ := List.forall_mem_cons.mp hbusy
    rw [← endedByPolls_cons]
    refine steps_succ_next.mpr ⟨_, step_busyPoll h hrst hb hx hcals, ?_⟩
    refine steps_succ_next.mpr ⟨_, step_pollDelay (afterRead_atRow h) hrst (hd.trans (List.cons_append ..)), ?_⟩
    exact ih hbusy _ (afterDelay_atRow (afterRead_atRow h)) hrst rfl rfl

/-! ### Polls that all show busy -/

/-- Every answer offered is a success, and to a poll it shows `CALS` 1: the premise of R206 item 2 on one state. -/
def OffersBusy (s : State) : Prop :=
  ∀ x rest, s.busIn = .answer x :: rest → x.ok = true ∧ (s.seq.step = 2 → extract x.rb0 (fieldPos .cals) = 1)

/-- From `s` to `t` the operation goes on: an action was answered and is in the trace, or there was no answer to take. -/
def GoesOn (s t : State) : Prop := t.phase = .run ∧ (¬ Answered s ∧ t.trace = s.trace ∨ ∃ i, t.trace = i :: s.trace)

theorem Answered.bus {s : State} {act : Action} {q : ReqWord} (h : Answered s) (hout : outstanding s = some act)
    (hq : requestWord act = some q) : ∃ x rest, s.busIn = .answer x :: rest := by
  obtain ⟨-, -, x, rest, -, -, hb⟩ | ⟨ms, -, hdelay, -⟩ := h
  · exact ⟨x, rest, hb⟩
  · obtain rfl := Option.some.inj (hout.symm.trans hdelay)
    cases hq

theorem Answered.delay {s : State} {ms : BitVec 10} (h : Answered s) (hout : outstanding s = some (.delay ms)) :
    ∃ rest, s.dlyIn = .done :: rest := by
  obtain ⟨act, q, -, -, hact, hq, -⟩ | ⟨-, rest, -, hd⟩ := h
  · obtain rfl := Option.some.inj (hout.symm.trans hact)
    cases hq
  · exact ⟨rest, hd⟩

section advance
variable {s t : State}

/-- A bus action goes on if every answer offered makes it go on. -/
theorem awaitBus_goesOn {act : Action} {q : ReqWord} {f : BusAnswer → State → State} (hp : s.phase = .run)
    (hout : outstanding s = some act) (hq : requestWord act = some q) (h : awaitBus f s = .next t)
    (hf : ∀ x rest, s.busIn = .answer x :: rest → GoesOn s (f x (s.setBusIn rest))) : GoesOn s t := by
  have unanswered (hb : ∀ x rest, s.busIn ≠ .answer x :: rest) : ¬ Answered s := fun ha => by
    obtain ⟨x, rest, h⟩ := ha.bus hout hq
    exact hb x rest h
  obtain ⟨hb, rfl⟩ | ⟨x, rest, hb, rfl⟩ | ⟨x, rest, hb, rfl⟩ := awaitBus_cases h
  · exact ⟨hp, .inl ⟨unanswered (by simp [hb]), rfl⟩⟩
  · exact ⟨hp, .inl ⟨unanswered (by simp [hb]), rfl⟩⟩
  · exact hf x rest hb

theorem memRead1_goesOn {a : Byte} {f : State → Next} (hp : s.phase = .run) (hbusy : OffersBusy s)
    (hout : outstanding s = some (.read a)) (h : memRead1 a f s = .next t)
    (hf : ∀ x rest, s.busIn = .answer x :: rest →
      ∃ k b, f (loaded s a x.rb0 rest) = .row k ((loaded s a x.rb0 rest).load b)) : GoesOn s t := by
  refine awaitBus_goesOn hp hout rfl h fun x rest hb => ?_
  obtain ⟨k, b, hrow⟩ := hf x rest hb
  rw [if_pos (hbusy x rest hb).1, ← loaded, hrow]
  exact ⟨hp, .inr ⟨_, rfl⟩⟩

theorem memWrite1_goesOn {a v : Byte} {k : Nat} (hp : s.phase = .run) (hbusy : OffersBusy s)
    (hout : outstanding s = some (.write a v)) (h : memWrite1 a v (.row k) s = .next t) : GoesOn s t := by
  refine awaitBus_goesOn hp hout rfl h fun x rest hb => ?_
  rw [if_pos (hbusy x rest hb).1]
  exact ⟨hp, .inr ⟨_, rfl⟩⟩

theorem delayFor_goesOn {ms : BitVec 10} {k : Nat} (hp : s.phase = .run) (hout : outstanding s = some (.delay ms))
    (h : delayFor ms (.row k) s = .next t) : GoesOn s t := by
  have unanswered (hd : ∀ rest, s.dlyIn ≠ .done :: rest) : ¬ Answered s := fun ha => by
    obtain ⟨rest, h⟩ := ha.delay hout
    exact hd rest h
  obtain ⟨hd, rfl⟩ | ⟨rest, hd, rfl⟩ | ⟨rest, hd, rfl⟩ := delayFor_cases h
  · exact ⟨hp, .inl ⟨unanswered (by simp [hd]), rfl⟩⟩
  · exact ⟨hp, .inl ⟨unanswered (by simp [hd]), rfl⟩⟩
  · exact ⟨hp, .inr ⟨_, rfl⟩⟩

/-- With busy answers alone, no row of CALIBRATE ends it. -/
theorem performRow_calibrate_goesOn (hp : s.phase = .run) (hbusy : OffersBusy s) :
    ∀ {k : Nat}, s.seq = ⟨.calibrate, k⟩ → performRow (calibrateTable s k) s = .next t → GoesOn s t := by
  intro k hseq h
  have hout : outstanding s = (calibrateTable s k).map Row.action := by rw [outstanding, currentRow_run hp, hseq]; rfl
  match k with
  | 0 => exact memRead1_goesOn hp hbusy hout h fun x rest _ => ⟨1, _, rfl⟩
  | 1 => exact memWrite1_goesOn hp hbusy hout h
  | 2 =>
    refine memRead1_goesOn hp hbusy hout h fun x rest hb => ⟨3, x.rb0, if_pos ?_⟩
    exact (isSet_eq_true_iff (F := .cals) x.rb0).mpr ((hbusy x rest hb).2 (by rw [hseq]))
  | 3 => exact delayFor_goesOn hp hout h
  | _ + 4 => cases h

theorem step_calibrate_goesOn (hp : s.phase = .run) (hop : s.seq.op = .calibrate) (hrst : s.rst = false)
    (hbusy : OffersBusy s) (h : step s = .next t) : GoesOn s t := by
  rw [step_run hp hrst, currentRow_run hp, hop] at h
  exact performRow_calibrate_goesOn hp hbusy (by rw [← hop]) h

/-- From `s` to `t` the command goes on unseen by the host: no response is delivered, no word is taken, and the trace is no
shorter. -/
structure Unended (s t : State) : Prop where
  run : t.phase = .run
  sameOp : t.seq.op = s.seq.op
  port : portWords t.trace = portWords s.trace
  words : s.cmdIn <+: t.cmdIn
  grows : s.trace.length ≤ t.trace.length

theorem Unended.refl (hp : s.phase = .run) : Unended s s := ⟨hp, rfl, rfl, ⟨[], List.append_nil s.cmdIn⟩, le_rfl⟩

theorem Unended.trans {u : State} (h : Unended s t) (h' : Unended t u) : Unended s u :=
  ⟨h'.run, h'.sameOp.trans h.sameOp, h'.port.trans h.port, h.words.trans h'.words, h.grows.trans h'.grows⟩

theorem EnvMove.unended (h : EnvMove s t) (hp : s.phase = .run) : Unended s t := by
  cases h with
  | offer w => exact ⟨hp, rfl, rfl, ⟨[w], rfl⟩, le_rfl⟩
  | _ => exact ⟨hp, rfl, rfl, ⟨[], List.append_nil s.cmdIn⟩, le_rfl⟩

/-- In a run as R206 item 2 says, no move of the block or its environment ends CALIBRATE. -/
theorem Moves.unended (h : Moves s t) (hp : s.phase = .run) (hop : s.seq.op = .calibrate) (hrst : s.rst = false)
    (hbusy : OffersBusy s) : Unended s t := by
  cases h with
  | env h => exact h.unended hp
  | block h =>
    have hrun := step_runStep hp hrst h
    obtain ⟨hp', htrace⟩ := step_calibrate_goesOn hp hop hrst hbusy h
    refine ⟨hp', hrun.op, ?_, by rw [hrun.cmdIn], ?_⟩
    · obtain ⟨-, hport⟩ | ⟨hidle, -⟩ := step_run_answers hp hrst h
      · exact hport
      · rw [hp'] at hidle
        cases hidle
    · obtain ⟨-, htrace⟩ | ⟨i, htrace⟩ := htrace <;> simp [htrace]

end advance

section run
variable {f : Nat → State}

/-- One move of a busy run while CALIBRATE is in progress. -/
theorem BusyRun.move (hf : BusyRun f) {n : Nat} (hp : (f n).phase = .run) (hop : (f n).seq.op = .calibrate) :
    Unended (f n) (f (n + 1)) := by
  obtain ⟨hmoves, hrst, hbusy⟩ := hf
  exact (hmoves n).unended hp hop (hrst n) (hbusy n)

/-- A busy run of CALIBRATE never ends it. -/
theorem BusyRun.unended (hf : BusyRun f) (hp : (f 0).phase = .run) (hop : (f 0).seq.op = .calibrate) (n : Nat) :
    Unended (f 0) (f n) := by
  induction n with
  | zero => exact .refl hp
  | succ n ih => exact ih.trans (hf.move ih.run (ih.sameOp.trans hop))

/-- Later in the run the trace is no shorter. -/
theorem BusyRun.trace_mono (hf : BusyRun f) (hp : (f 0).phase = .run) (hop : (f 0).seq.op = .calibrate) :
    Monotone fun n => (f n).trace.length := by
  refine monotone_nat_of_le_succ fun n => ?_
  have before := hf.unended hp hop n
  exact (hf.move before.run (before.sameOp.trans hop)).grows

/-- Each answered action adds an item to the trace. -/
theorem BusyRun.trace_unbounded (hf : BusyRun f) (hp : (f 0).phase = .run) (hop : (f 0).seq.op = .calibrate)
    (hans : ∀ n, ∃ m, n ≤ m ∧ Answered (f m) ∧ step (f m) = .next (f (m + 1))) (k : Nat) :
    ∃ n, k ≤ (f n).trace.length := by
  induction k with
  | zero => exact ⟨0, Nat.zero_le _⟩
  | succ k ih =>
    obtain ⟨-, hrst, hbusy⟩ := id hf
    obtain ⟨n, hn⟩ := ih
    obtain ⟨m, hnm, ha, hstep⟩ := hans n
    have before := hf.unended hp hop m
    have hmono : (f n).trace.length ≤ (f m).trace.length := hf.trace_mono hp hop hnm
    obtain ⟨-, ⟨hna, -⟩ | ⟨i, htrace⟩⟩ :=
      step_calibrate_goesOn before.run (before.sameOp.trans hop) (hrst m) (hbusy m) hstep
    · exact absurd ha hna
    · exact ⟨m + 1, by rw [htrace, List.length_cons]; omega⟩

end run

/-! ### A run that never ends -/

/-- A poll's answer that shows `CALS` 1. -/
def busyAnswer : BusAnswer := { ok := true, errk := 0, rb0 := mask (fieldPos .cals), rb1 := 0, rb2 := 0 }

/-- The four states of the poll loop, the answer to a poll being `busyAnswer`: the poll is outstanding, it is answered, the delay
is outstanding, it is answered. -/
inductive InPollLoop (s : State) : Prop
  | poll (h : AtRow s .calibrate 2) (hb : s.busIn = []) (hd : s.dlyIn = [])
  | polled (h : AtRow s .calibrate 2) (hb : s.busIn = [.answer busyAnswer]) (hd : s.dlyIn = [])
  | pause (h : AtRow s .calibrate 3) (hb : s.busIn = []) (hd : s.dlyIn = [])
  | paused (h : AtRow s .calibrate 3) (hb : s.busIn = []) (hd : s.dlyIn = [.done])

/-- What an endless run has got done: an answer put at a port counts one, its action carried out one more. -/
def progress (s : State) : Nat := 2 * s.trace.length + s.busIn.length + s.dlyIn.length

theorem InPollLoop.offersBusy {s : State} (h : InPollLoop s) : OffersBusy s := by
  intro x rest hx
  cases h with
  | polled _ hb _ =>
    obtain ⟨hanswer, -⟩ := List.cons.inj (hb.symm.trans hx)
    cases hanswer
    exact ⟨rfl, fun _ => by decide⟩
  | poll _ hb _ | pause _ hb _ | paused _ hb _ => simp [hb] at hx

theorem InPollLoop.progress_le {s : State} (h : InPollLoop s) : progress s ≤ 2 * s.trace.length + 1 := by
  cases h with
  | _ _ hb hd => simp [progress, hb, hd]

/-- The loop goes round: the environment answers what is outstanding, and the block takes the answer. -/
theorem InPollLoop.moves {s : State} (h : InPollLoop s) (hrst : s.rst = false) :
    ∃ t, Moves s t ∧ t.rst = false ∧ InPollLoop t ∧ progress t = progress s + 1 := by
  cases h with
  | poll h hb hd =>
    exact ⟨_, .env _ _ (.answerBus s busyAnswer), hrst, .polled h (by simp [State.answerBus, hb]) hd,
      by simp [progress, State.answerBus, hb, hd]⟩
  | polled h hb hd =>
    exact ⟨_, .block _ _ (step_busyPoll h hrst hb rfl (by decide)), hrst, .pause (afterRead_atRow h) rfl hd,
      by simp [progress, afterRead, hb, hd]; omega⟩
  | pause h hb hd =>
    exact ⟨_, .env _ _ (.answerDelay s), hrst, .paused h hb (by simp [State.answerDelay, hd]),
      by simp [progress, State.answerDelay, hb, hd]⟩
  | paused h hb hd =>
    exact ⟨_, .block _ _ (step_pollDelay h hrst hd), hrst, .poll (afterDelay_atRow h) hb rfl,
      by simp [progress, afterDelay, hb, hd]; omega⟩

/-- From every state of the loop there is a busy run that gets something done in every move. -/
theorem InPollLoop.exists_busyRun {s : State} (h : InPollLoop s) (hrst : s.rst = false) :
    ∃ f : Nat → State, f 0 = s ∧ BusyRun f ∧ ∀ n, n ≤ 2 * (f n).trace.length + 1 := by
  have : Nonempty State := ⟨s⟩
  choose! next hmoves hnext hloop hprogress using fun u (hu : InPollLoop u ∧ u.rst = false) => hu.1.moves hu.2
  have hrun (n : Nat) : (InPollLoop (next^[n] s) ∧ (next^[n] s).rst = false) ∧ progress (next^[n] s) = progress s + n := by
    induction n with
    | zero => exact ⟨⟨h, hrst⟩, rfl⟩
    | succ n ih =>
      obtain ⟨hin, hn⟩ := ih
      rw [Function.iterate_succ_apply', hprogress _ hin, hn]
      exact ⟨⟨hloop _ hin, hnext _ hin⟩, Nat.add_assoc ..⟩
  refine ⟨fun n => next^[n] s, rfl, ⟨fun n => ?_, fun n => ?_, fun n => ?_⟩, fun n => ?_⟩
  all_goals obtain ⟨⟨hin, hr⟩, hn⟩ := hrun n
  · show Moves (next^[n] s) (next^[n + 1] s)
    rw [Function.iterate_succ_apply']
    exact hmoves _ ⟨hin, hr⟩
  · exact hr
  · exact hin.offersBusy
  · exact (Nat.le_add_left n _).trans (hn ▸ hin.progress_le)

end Sys2Proof.Machine

section
open Sys2Proof Sys2Proof.Machine Sys2Proof.Params

/-- Settles O35, row by row; row 2 is the poll. -/
theorem calibrateRows : Obligations.CalibrateRows := by
  refine ⟨?_, ?_⟩
  · rintro s x rest _ hb hx rfl
    refine ⟨fun h => ?_, fun h => ?_, fun h => ?_⟩
    · exact exec_readRow h (running_calibrate h) rfl hb hx rfl
    · exact exec_writeRow h (running_calibrate h) rfl hb hx
    · exact exec_pollRow h hb hx
  · rintro s rest _ hd rfl h
    exact exec_delayRow h (running_calibrate h) rfl hd

/-- Settles O45: two steps to the first poll, then the poll loop by induction on the busy polls (`steps_polls`). -/
theorem calibratePollsUntilClear : Obligations.CalibratePollsUntilClear := by
  intro s first written last busy bs ds h hrst hfirst hwritten hlast hbusy hclear hb hd
  refine steps_succ_next.mpr ⟨_, step_startRead h hrst hb hfirst, ?_⟩
  refine steps_succ_next.mpr ⟨_, step_startWrite (afterRead_atRow h) hrst rfl hwritten, ?_⟩
  exact steps_polls hlast hclear busy hbusy _ (afterWrite_atRow (afterRead_atRow h)) hrst rfl hd

/-- Settles O46: no move of a busy run ends CALIBRATE, each answered action adds to the trace, and the poll loop is such a run. -/
theorem calibrateMayNeverEnd : Obligations.CalibrateMayNeverEnd := by
  refine ⟨fun f hf hp hop => ⟨fun n => ?_, hf.trace_unbounded hp hop⟩, fun s h hrst hb hd => ?_⟩
  · have run := hf.unended hp hop n
    exact ⟨run.run, by rw [State.busy, run.run]; rfl, run.sameOp.trans hop, run.port, run.words⟩
  · obtain ⟨f, hstart, hf, hgrows⟩ := (InPollLoop.poll h hb hd).exists_busyRun hrst
    refine ⟨f, hstart, hf, fun k => ⟨2 * k, ?_⟩⟩
    have := hgrows (2 * k)
    omega

end
end

section
/-! A row carried out, for every bus action alike: an answer of success is loaded and the row's "on answer" column follows, an
answer of failure ends the operation with its error kind (60_exceptions R216). -/

namespace Sys2Proof.Machine

open Sys2Proof.Codec

/-- What an answer of success to an action leaves in the trace and in the working registers (41_primitives R150 to R154). -/
def loadAnswer (act : Action) (x : BusAnswer) (s : State) : State :=
  match act with
  | .read a => (s.push (.rd a x.rb0)).load x.rb0
  | .write a v => s.push (.wr a v)
  | .burst => (s.push (.rd3 Params.adcoB2 x.rb0 x.rb1 x.rb2)).setAcc (assemble24 x.rb0 x.rb1 x.rb2)
  | .delay ms => s.push (.dly ms)

section perform
variable {r : Row} {q : ReqWord} {s : State} {x : BusAnswer} {rest : List BusIn}

/-- A row that is a bus transaction, whichever of the three it is. -/
theorem perform_bus (hq : requestWord r.action = some q) (s : State) :
    perform r s = awaitBus (fun x u =>
      if x.ok then commit (r.onAnswer (loadAnswer r.action x u))
      else raise (.transport x.errk) (u.push (errorItem r.action x.errk))) s := by
  obtain ⟨act, f⟩ := r
  cases act with
  | delay ms => cases hq
  | _ => rfl

theorem perform_bus_ok (hq : requestWord r.action = some q) (hb : s.busIn = .answer x :: rest) (hx : x.ok = true) :
    perform r s = .next (commit (r.onAnswer (loadAnswer r.action x (s.setBusIn rest)))) := by
  rw [perform_bus hq, awaitBus_answer hb, if_pos hx]

theorem perform_bus_error (hq : requestWord r.action = some q) (hb : s.busIn = .answer x :: rest) (hx : x.ok = false) :
    perform r s = .next (raise (.transport x.errk) ((s.setBusIn rest).push (errorItem r.action x.errk))) := by
  rw [perform_bus hq, awaitBus_answer hb, if_neg (by simp [hx])]

/-- Without block reset, a step with an action outstanding carries out its row. -/
theorem step_outstanding {act : Action} (hrst : s.rst = false) (h : outstanding s = some act) :
    ∃ r, r.action = act ∧ RowOk s s.seq.op s.seq.step r ∧ step s = perform r s := by
  obtain ⟨r, hr, hact, hp, hok, -, -⟩ := outstanding_performs h
  exact ⟨r, hact, hok, by rw [step_run hp hrst, hr]; rfl⟩

/-- An outstanding delay that is answered goes on to another row. -/
theorem RowOk.perform_delay {op : Op} {k : Nat} {ms : BitVec 10} {dones : List DlyIn} (hr : RowOk s op k r)
    (hact : r.action = .delay ms) (hd : s.dlyIn = .done :: dones) : ∃ k', perform r s = .next (afterDelay s ms dones k') := by
  cases hr with
  | @delay _ k' _ _ =>
    cases hact
    exact ⟨k', delayFor_done hd⟩
  | _ => cases hact

end perform

end Sys2Proof.Machine

section
open Sys2Proof Sys2Proof.Machine

/-- Settles O39: every kind of bus row raises on a failed answer, and a delay row goes on. -/
theorem transportErrorEndsTheOperation : Obligations.TransportErrorEndsTheOperation := by
  refine ⟨fun s act q x rest hrst hout hq hb hx => ?_, fun s ms rest hrst hout hd => ?_⟩
  · obtain ⟨r, rfl, -, hstep⟩ := step_outstanding hrst hout
    rw [hstep, perform_bus_error hq hb hx]
    rfl
  · obtain ⟨r, hact, hok, hstep⟩ := step_outstanding hrst hout
    rw [hstep]
    exact hok.perform_delay hact hd

end
end

section
/-! No state with the control invariant stops (10_state R22, 60_exceptions R229), and no move of the environment breaks it. -/

namespace Sys2Proof.Machine

/-- In IDLE every word is taken, whatever its bits (30_encoding R95), and without one the block waits. -/
theorem step_next_of_idle {s : State} (hp : s.phase = .idle) (hrst : s.rst = false) : ∃ t, step s = .next t := by
  cases hc : s.cmdIn with
  | nil => exact ⟨s, step_idle_nil hp hrst hc⟩
  | cons w rest =>
    rw [step_idle_cons hp hrst hc]
    cases hd : decodeCmd w with
    | error e => exact ⟨_, runCommand_illegal hd s⟩
    | ok i =>
      obtain ⟨op, hop⟩ := op_of_decodeCmd hd
      exact ⟨_, runCommand_legal hd hop hp⟩

/-- In RUN the row that `SEQ` names is carried out, or waits for its answer. -/
theorem step_next_of_seqOk {s : State} (hseq : SeqOk s) (hp : s.phase = .run) (hrst : s.rst = false) :
    ∃ t, step s = .next t := by
  obtain ⟨r, hr⟩ := Option.isSome_iff_exists.mp (hseq hp)
  rw [step_run hp hrst, hr]
  exact perform_next r s

theorem ControlOk.step_next {s : State} (hs : ControlOk s) : ∃ t, step s = .next t := by
  obtain ⟨hseq, -, -⟩ := hs
  cases hrst : s.rst with
  | true => exact ⟨_, step_of_rst hrst⟩
  | false =>
    cases hp : s.phase with
    | idle => exact step_next_of_idle hp hrst
    | run => exact step_next_of_seqOk hseq hp hrst

/-- The control invariant says nothing of the ports and of the block reset input. -/
theorem ControlOk.withPorts {s : State} (hs : ControlOk s) (rst : Bool) (words : List CmdWord) (b : List BusIn)
    (d : List DlyIn) : ControlOk { s with rst := rst, cmdIn := words, busIn := b, dlyIn := d } := by
  obtain ⟨hseq, hlatches, hhandle⟩ := hs
  have hrow : currentRow { s with rst := rst, cmdIn := words, busIn := b, dlyIn := d } = currentRow s :=
    currentRow_congr rfl fun _ => ⟨rfl, .refl _ s, fun _ => rfl⟩
  exact ⟨fun hp => hrow ▸ hseq hp, hlatches, hhandle⟩

/-- The environment moves the ports and the block reset input alone. -/
theorem EnvMove.controlOk {s t : State} (h : EnvMove s t) (hs : ControlOk s) : ControlOk t := by
  cases h with
  | offer w => exact hs.withPorts s.rst (s.cmdIn ++ [w]) s.busIn s.dlyIn
  | answerBus a => exact hs.withPorts s.rst s.cmdIn (s.busIn ++ [.answer a]) s.dlyIn
  | answerBusLate a => exact hs.withPorts s.rst s.cmdIn (s.busIn ++ [.late a]) s.dlyIn
  | answerDelay => exact hs.withPorts s.rst s.cmdIn s.busIn (s.dlyIn ++ [.done])
  | answerDelayLate => exact hs.withPorts s.rst s.cmdIn s.busIn (s.dlyIn ++ [.late])
  | assertRst => exact hs.withPorts true s.cmdIn s.busIn s.dlyIn

/-- The control invariant holds after block reset, and every move keeps it. -/
theorem Reachable.controlOk {s : State} (h : Reachable s) : ControlOk s := by
  induction h with
  | reset => exact controlOk_of_idle rfl
  | move s t _ m ih =>
    cases m with
    | block hstep => exact stepKeepsControlOk s t ih hstep
    | env henv => exact henv.controlOk ih

end Sys2Proof.Machine

section
open Sys2Proof Sys2Proof.Machine

/-- Settles O52: progress and preservation, and the reachable states by induction on how they are reached. -/
theorem reachableStatesNeverStop : Obligations.ReachableStatesNeverStop :=
  ⟨fun _ hs => hs.step_next, fun _ _ hs hmove => hmove.controlOk hs, fun _ h => ⟨h.controlOk, h.controlOk.step_next⟩⟩

end
end

section
/-! How the rows of each operation end it (60_exceptions R221, R222, R226). -/

namespace Sys2Proof.Machine

open Sys2Proof.Params Sys2Proof.Codec

/-! ### The ends that the "on answer" column of a row can ask for -/

/-- The column goes on, returns, or raises an error of the operation; of the trace and `HVALID` it changes nothing, but that a
return of NEW sets `HVALID` (10_state R27). -/
def Next.Tabled (op : Op) (pwr : Bool) (u : State) : Next → Prop
  | .row _ v => v.phase = u.phase
  | .ret _ v => v.trace = u.trace ∧ v.hvalid = (op == .new || u.hvalid)
  | .err e v => v.trace = u.trace ∧ v.hvalid = u.hvalid ∧ mayEnd op pwr (errStatus e) = true

/-- Whatever the answer, the column ends the operation only as tabled. -/
def EndsTabled (op : Op) (pwr : Bool) (f : State → Next) : Prop := ∀ u, (f u).Tabled op pwr u

section EndsTabled
variable {op : Op} {pwr : Bool}

theorem EndsTabled.goto {k : State → Nat} {edit : State → State} (h : ∀ u, (edit u).phase = u.phase := by exact fun _ => rfl) :
    EndsTabled op pwr (fun u => .row (k u) (edit u)) := h

theorem EndsTabled.ret {d : State → Data} {f : State → State} (ht : ∀ u, (f u).trace = u.trace := by exact fun _ => rfl)
    (hh : ∀ u, (f u).hvalid = (op == .new || u.hvalid) := by exact fun _ => rfl) :
    EndsTabled op pwr (fun u => .ret (d u) (f u)) :=
  fun u => ⟨ht u, hh u⟩

theorem EndsTabled.err {e : State → Err} (h : ∀ u, mayEnd op pwr (errStatus (e u)) = true := by exact fun _ => rfl) :
    EndsTabled op pwr (fun u => .err (e u) u) :=
  fun u => ⟨rfl, rfl, h u⟩

theorem EndsTabled.ite {p : State → Bool} {f g : State → Next} (hf : EndsTabled op pwr f) (hg : EndsTabled op pwr g) :
    EndsTabled op pwr (fun u => if p u then f u else g u) := by
  intro u
  dsimp only
  split
  · exact hf u
  · exact hg u

/-- A column whose other branch is dead. -/
theorem EndsTabled.always {p : State → Bool} {f g : State → Next} (hp : ∀ u, p u = true) (hf : EndsTabled op pwr f) :
    EndsTabled op pwr (fun u => if p u then f u else g u) := by
  intro u
  dsimp only
  rw [if_pos (hp u)]
  exact hf u

theorem EndsTabled.ready {f : State → Next} (hf : EndsTabled op pwr f) (h : mayEnd op pwr .notReady = true := by rfl) :
    EndsTabled op pwr (fun u => requireReady u (f u)) :=
  .ite hf (.err fun _ => h)

theorem EndsTabled.revision {f : State → Next} (hf : EndsTabled op pwr f)
    (h : mayEnd op pwr .revisionMismatch = true := by rfl) : EndsTabled op pwr (fun u => requireRevision u (f u)) :=
  .ite hf (.err fun _ => h)

end EndsTabled

section tables
variable {s : State} {pwr : Bool}

theorem resetTable_ends : ∀ {k : Nat} {r : Row}, resetTable s k = some r → EndsTabled .reset pwr r.onAnswer
  | 0, _, rfl | 1, _, rfl | 2, _, rfl | 3, _, rfl | 4, _, rfl | 5, _, rfl => .goto
  | 6, _, rfl => .ready .ret
  | _ + 7, _, h => nomatch h

theorem powerDownTable_ends : ∀ {k : Nat} {r : Row}, powerDownTable s k = some r → EndsTabled .enable pwr r.onAnswer
  | 0, _, rfl => .goto
  | 1, _, rfl => .ret
  | _ + 2, _, h => nomatch h

/-- Only power up checks readiness (60_exceptions R226). -/
theorem powerUpTable_ends : ∀ {k : Nat} {r : Row}, powerUpTable s k = some r → EndsTabled .enable true r.onAnswer
  | 0, _, rfl | 1, _, rfl | 2, _, rfl | 3, _, rfl | 4, _, rfl => .goto
  | 5, _, rfl => .ready .ret
  | _ + 6, _, h => nomatch h

theorem enableTable_ends {k : Nat} {r : Row} (h : enableTable s k = some r) : EndsTabled .enable s.aPwr r.onAnswer := by
  unfold enableTable at h
  split at h
  · next hp =>
    rw [hp]
    exact powerUpTable_ends h
  · exact powerDownTable_ends h

theorem availableTable_ends : ∀ {k : Nat} {r : Row}, availableTable s k = some r → EndsTabled .available pwr r.onAnswer
  | 0, _, rfl => .ret
  | _ + 1, _, h => nomatch h

theorem readTable_ends : ∀ {k : Nat} {r : Row}, readTable s k = some r → EndsTabled .read pwr r.onAnswer
  | 0, _, rfl => .ret
  | _ + 1, _, h => nomatch h

theorem setLdoTable_ends : ∀ {k : Nat} {r : Row}, setLdoTable s k = some r → EndsTabled .setLdo pwr r.onAnswer
  | 0, _, rfl => .goto
  | 1, _, h => by
      simp only [setLdoTable] at h
      split at h <;> cases h
      · exact .ret
      · exact .goto
  | 2, _, h => by
      simp only [setLdoTable] at h
      split at h <;> cases h
      exact .goto
  | 3, _, h => by
      simp only [setLdoTable] at h
      split at h <;> cases h
      exact .ret
  | _ + 4, _, h => nomatch h

theorem getLdoTable_ends : ∀ {k : Nat} {r : Row}, getLdoTable s k = some r → EndsTabled .getLdo pwr r.onAnswer
  | 0, _, rfl => .ite .goto .ret
  | 1, _, rfl => .ret
  | _ + 2, _, h => nomatch h

theorem setGainTable_ends : ∀ {k : Nat} {r : Row}, setGainTable s k = some r → EndsTabled .setGain pwr r.onAnswer
  | 0, _, rfl => .goto
  | 1, _, rfl => .ret
  | _ + 2, _, h => nomatch h

/-- The raising branch is dead: every gain code has a member (44_config R193). -/
theorem getGainTable_ends : ∀ {k : Nat} {r : Row}, getGainTable s k = some r → EndsTabled .getGain pwr r.onAnswer
  | 0, _, rfl => .always (fun u => decGain_isSome (u.getField .gains)) .ret
  | _ + 1, _, h => nomatch h

theorem setRateTable_ends : ∀ {k : Nat} {r : Row}, setRateTable s k = some r → EndsTabled .setRate pwr r.onAnswer
  | 0, _, rfl => .goto
  | 1, _, rfl => .ret
  | _ + 2, _, h => nomatch h

theorem getRateTable_ends : ∀ {k : Nat} {r : Row}, getRateTable s k = some r → EndsTabled .getRate pwr r.onAnswer
  | 0, _, rfl => .ite .ret .err
  | _ + 1, _, h => nomatch h

theorem calibrateTable_ends : ∀ {k : Nat} {r : Row}, calibrateTable s k = some r → EndsTabled .calibrate pwr r.onAnswer
  | 0, _, rfl | 1, _, rfl | 3, _, rfl => .goto
  | 2, _, rfl => .ite .goto (.ite .err .ret)
  | _ + 4, _, h => nomatch h

theorem newTable_ends : ∀ {k : Nat} {r : Row}, newTable s k = some r → EndsTabled .new pwr r.onAnswer
  | 0, _, rfl | 1, _, rfl | 2, _, rfl | 3, _, rfl | 4, _, rfl | 5, _, rfl | 7, _, rfl | 8, _, rfl | 9, _, rfl | 10, _, rfl
  | 11, _, rfl | 14, _, rfl | 15, _, rfl | 18, _, rfl | 19, _, rfl | 20, _, rfl | 21, _, rfl | 22, _, rfl | 23, _, rfl
  | 24, _, rfl | 25, _, rfl | 26, _, rfl => .goto
  | 6, _, rfl | 12, _, rfl => .ready .goto
  | 13, _, rfl => .revision .goto
  | 16, _, h | 17, _, h => by
      simp only [newTable] at h
      split at h <;> cases h
      exact .goto
  | 27, _, rfl => .ret
  | _ + 28, _, h => nomatch h

/-- The row that is outstanding ends its operation only as tabled. -/
theorem tableOf_ends {op : Op} {k : Nat} {r : Row} (h : tableOf op s k = some r) : EndsTabled op s.aPwr r.onAnswer := by
  cases op with
  | new => exact newTable_ends h
  | reset => exact resetTable_ends h
  | enable => exact enableTable_ends h
  | available => exact availableTable_ends (s := s) h
  | read => exact readTable_ends (s := s) h
  | setLdo => exact setLdoTable_ends h
  | getLdo => exact getLdoTable_ends (s := s) h
  | setGain => exact setGainTable_ends h
  | getGain => exact getGainTable_ends (s := s) h
  | setRate => exact setRateTable_ends h
  | getRate => exact getRateTable_ends (s := s) h
  | calibrate => exact calibrateTable_ends h

end tables

/-! ### A step that ends an operation -/

/-- `u` is `s` with an answer taken, good or bad: its item is in the trace; phase and `HVALID` are as they were. -/
structure AnswerTaken (s u : State) : Prop where
  phase : u.phase = s.phase
  hvalid : u.hvalid = s.hvalid
  trace : ∃ i, portWord i = none ∧ u.trace = i :: s.trace

theorem answerTaken_loadAnswer (act : Action) (x : BusAnswer) (s : State) (rest : List BusIn) :
    AnswerTaken s (loadAnswer act x (s.setBusIn rest)) := by
  cases act <;> exact ⟨rfl, rfl, _, rfl, rfl⟩

theorem answerTaken_errorItem (act : Action) (e : BitVec 2) (s : State) (rest : List BusIn) :
    AnswerTaken s ((s.setBusIn rest).push (errorItem act e)) := by
  cases act <;> exact ⟨rfl, rfl, _, rfl, rfl⟩

/-- A row carried out: the phase stays, or an answer is taken, and then the "on answer" column follows or the transport error. -/
theorem perform_cases {r : Row} {s t : State} (h : perform r s = .next t) :
    t.phase = s.phase ∨
    ∃ u n, AnswerTaken s u ∧ t = commit n ∧ (n = r.onAnswer u ∨ ∃ e, n = .err (.transport e) u) := by
  cases hq : requestWord r.action with
  | some q =>
    rw [perform_bus hq] at h
    obtain ⟨-, rfl⟩ | ⟨x, rest, -, rfl⟩ | ⟨x, rest, -, rfl⟩ := awaitBus_cases h
    · exact .inl rfl
    · exact .inl rfl
    · refine .inr ?_
      split
      · exact ⟨_, _, answerTaken_loadAnswer r.action x s rest, rfl, .inl rfl⟩
      · exact ⟨_, .err (.transport x.errk) _, answerTaken_errorItem r.action x.errk s rest, rfl, .inr ⟨x.errk, rfl⟩⟩
  | none =>
    obtain ⟨act, f⟩ := r
    cases act with
    | delay ms =>
      obtain ⟨-, rfl⟩ | ⟨rest, -, rfl⟩ | ⟨rest, -, rfl⟩ := delayFor_cases (show delayFor ms f s = _ from h)
      · exact .inl rfl
      · exact .inl rfl
      · exact .inr ⟨(s.setDlyIn rest).push (.dly ms), _, ⟨rfl, rfl, _, rfl, rfl⟩, rfl, .inl rfl⟩
    | _ => cases hq

/-- From `s` to `t` the operation in progress has ended with the response `(st, d)`, as R226 tables it. -/
structure EndedAs (s t : State) (st : Status) (d : Data) : Prop where
  trace : ∃ i, portWord i = none ∧ t.trace = .rsp st d :: i :: s.trace
  allowed : mayEnd s.seq.op s.aPwr st = true
  data : st = .notReady ∨ st = .invalidData ∨ st = .calibrationError → d = 0
  hvalid : t.hvalid = true ↔ s.hvalid = true ∨ (s.seq.op = .new ∧ st = .ok)

theorem errStatus_ne_ok (e : Err) : errStatus e ≠ .ok := by cases e <;> nofun

/-- The three kinds without payload (30_encoding R114). -/
theorem errData_eq_zero {e : Err} (h : errStatus e = .notReady ∨ errStatus e = .invalidData ∨ errStatus e = .calibrationError) :
    errData e = 0 := by
  cases e with
  | notReady | invalidData | calibrationError => rfl
  | transport _ | revisionMismatch _ => simp [errStatus] at h

/-- A column's end that is tabled, carried out on a taken answer. -/
theorem AnswerTaken.endedAs {s u : State} {n : Next} (hu : AnswerTaken s u) (hn : n.Tabled s.seq.op s.aPwr u)
    (hp : s.phase = .run) (hend : (commit n).phase = .idle) : ∃ st d, EndedAs s (commit n) st d := by
  obtain ⟨hphase, hh, i, hi, htrace⟩ := hu
  cases n with
  | row k v =>
    have hrun : v.phase = .run := hn.trans (hphase.trans hp)
    simp [commit, hrun] at hend
  | ret d v =>
    obtain ⟨hvt, hvh⟩ := hn
    exact ⟨.ok, d, ⟨i, hi, by simp [commit, hvt, htrace]⟩, rfl, by simp, by simp [commit, hvh, hh, or_comm]⟩
  | err e v =>
    obtain ⟨hvt, hvh, hmay⟩ := hn
    exact ⟨errStatus e, errData e, ⟨i, hi, by simp [commit, hvt, htrace]⟩, hmay, errData_eq_zero,
      by simp [commit, hvh, hh, errStatus_ne_ok e]⟩

theorem step_endedAs {s t : State} (hp : s.phase = .run) (hrst : s.rst = false) (h : step s = .next t)
    (hend : t.phase = .idle) : ∃ st d, EndedAs s t st d := by
  rw [step_run hp hrst, currentRow_run hp] at h
  cases hr : tableOf s.seq.op s s.seq.step with
  | none => rw [hr] at h; cases h
  | some r =>
    rw [hr] at h
    obtain hsame | ⟨u, n, hu, rfl, hn⟩ := perform_cases (show perform r s = _ from h)
    · simp [hsame, hp] at hend
    · refine hu.endedAs ?_ hp hend
      obtain rfl | ⟨e, rfl⟩ := hn
      · exact tableOf_ends hr u
      · exact ⟨rfl, rfl, rfl⟩

/-- The numbers of the statuses that an operation ends with (30_encoding R113). -/
theorem statusCode_le_of_mayEnd {op : Op} {pwr : Bool} {st : Status} (h : mayEnd op pwr st = true) :
    (statusCode st).toNat ≤ 5 := by
  cases st with
  | refused => cases h
  | _ => decide

theorem statusCode_ne_six (st : Status) : statusCode st ≠ 6 := by cases st <;> decide

/-! ### Every status of the table occurs -/

/-- The command of `op` with the operand latches 0 but `A_PWR`, in progress at row `k`; the answer `x` waits. -/
def poised (op : Op) (pwr : Bool) (k : Nat) (x : BusAnswer) : State :=
  { State.reset with phase := .run, seq := ⟨op, k⟩, aPwr := pwr, hvalid := op != .new, busIn := [.answer x] }

theorem poised_controlOk {op : Op} {pwr : Bool} {k : Nat} {x : BusAnswer} {r : Row}
    (hr : tableOf op (poised op pwr k x) k = some r) : ControlOk (poised op pwr k x) := by
  refine ⟨fun _ => ?_, fun _ => ?_, fun _ => by simp [poised]⟩
  · rw [currentRow_run rfl]
    exact Option.isSome_of_eq_some hr
  · cases op <;> rfl

/-- An operation ends with `st` in some state with the control invariant. -/
def CanEnd (op : Op) (pwr : Bool) (st : Status) : Prop :=
  ∃ s t d item, ControlOk s ∧ s.phase = .run ∧ s.rst = false ∧ s.seq.op = op ∧ s.aPwr = pwr ∧
    step s = .next t ∧ t.phase = .idle ∧ t.trace = .rsp st d :: item :: s.trace

/-- An answer of success whose every byte is `b`. -/
def successOf (b : Byte) : BusAnswer := { ok := true, errk := 0, rb0 := b, rb1 := b, rb2 := b }

/-- A failed answer. -/
def failure : BusAnswer := { ok := false, errk := 0, rb0 := 0, rb1 := 0, rb2 := 0 }

section CanEnd
variable {op : Op} {pwr : Bool}

/-- A row whose answer ends the operation with `st`. -/
theorem CanEnd.of_perform {st : Status} {d : Data} {k : Nat} {x : BusAnswer} {r : Row} {u : State} {i : TraceItem}
    (hr : tableOf op (poised op pwr k x) k = some r) (hu : u.trace = [i])
    (h : perform r (poised op pwr k x) = .next ((deliver st d u).setPhase .idle)) : CanEnd op pwr st := by
  refine ⟨poised op pwr k x, (deliver st d u).setPhase .idle, d, i, poised_controlOk hr, rfl, rfl, rfl, rfl, ?_, rfl,
    congrArg (TraceItem.rsp st d :: ·) hu⟩
  have hat : AtRow (poised op pwr k x) op k := ⟨rfl, rfl⟩
  rw [step_atRow hat rfl, hr]
  exact h

/-- Row `k`, answered with the byte `b`, ends the operation with `st` if its "on answer" column, evaluated, does. -/
theorem CanEnd.byRow {st : Status} {r : Row} {q : ReqWord} (k : Nat) (b : Byte)
    (hr : tableOf op (poised op pwr k (successOf b)) k = some r) (hq : requestWord r.action = some q)
    (hend : ∃ d u, commit (r.onAnswer (loadAnswer r.action (successOf b) ((poised op pwr k (successOf b)).setBusIn []))) =
      (deliver st d u).setPhase .idle ∧ ∃ i, u.trace = [i] := by exact ⟨_, _, rfl, _, rfl⟩) :
    CanEnd op pwr st := by
  obtain ⟨d, u, hcommit, i, htrace⟩ := hend
  refine .of_perform (d := d) hr htrace ?_
  rw [perform_bus_ok hq rfl rfl, hcommit]

/-- The first row of every operation is a bus transaction. -/
theorem tableOf_zero_bus (op : Op) (s : State) : ∃ r q, tableOf op s 0 = some r ∧ requestWord r.action = some q := by
  cases op with
  | enable =>
    simp only [tableOf, enableTable]
    split <;> exact ⟨_, _, rfl, rfl⟩
  | _ => exact ⟨_, _, rfl, rfl⟩

theorem canEnd_transport : CanEnd op pwr .transport := by
  obtain ⟨r, q, hr, hq⟩ := tableOf_zero_bus op (poised op pwr 0 failure)
  exact .of_perform hr rfl (perform_bus_error hq rfl rfl)

/-- The last row of each operation, and a byte that passes its check, if it checks. Where `A_PWR` is split, that is only to make
the state a literal, on which the check evaluates. -/
theorem canEnd_ok : CanEnd op pwr .ok := by
  cases op with
  | new => exact .byRow 27 0 rfl rfl
  | reset => cases pwr <;> exact .byRow 6 (mask (fieldPos .pur)) rfl rfl
  | enable =>
    cases pwr with
    | true => exact .byRow 5 (mask (fieldPos .pur)) rfl rfl
    | false => exact .byRow 1 0 rfl rfl
  | setLdo => exact .byRow 3 0 rfl rfl
  | getLdo | setGain | setRate => exact .byRow 1 0 rfl rfl
  | calibrate => cases pwr <;> exact .byRow 2 0 rfl rfl
  | available | read | getGain => exact .byRow 0 0 rfl rfl
  | getRate => cases pwr <;> exact .byRow 0 0 rfl rfl

/-- A readiness check that finds `PUR` 0. -/
theorem canEnd_notReady (h : mayEnd op pwr .notReady = true) : CanEnd op pwr .notReady := by
  cases op with
  | new | reset => cases pwr <;> exact .byRow 6 0 rfl rfl
  | enable =>
    cases pwr with
    | true => exact .byRow 5 0 rfl rfl
    | false => cases h
  | _ => cases h

/-- Every status that an operation may end with occurs: GET_RATE reads the reserved code 4, CALIBRATE reads `CAL_ERR` 1, and NEW
reads the revision 0. -/
theorem canEnd_of_mayEnd {st : Status} (h : mayEnd op pwr st = true) : CanEnd op pwr st := by
  cases st with
  | ok => exact canEnd_ok
  | transport => exact canEnd_transport
  | notReady => exact canEnd_notReady h
  | invalidData =>
    obtain rfl : op = .getRate := eq_of_beq h
    cases pwr <;> exact .byRow 0 (insert 0 (fieldPos .crs) 4) rfl rfl
  | calibrationError =>
    obtain rfl : op = .calibrate := eq_of_beq h
    cases pwr <;> exact .byRow 2 (mask (fieldPos .calErr)) rfl rfl
  | revisionMismatch =>
    obtain rfl : op = .new := eq_of_beq h
    exact .byRow 13 0 rfl rfl
  | refused => cases h

end CanEnd

end Sys2Proof.Machine

section
open Sys2Proof Sys2Proof.Machine

/-- Settles O40: the ends come from the "on answer" columns of the tables (`tableOf_ends`) and from transport errors, and each
status allowed is brought about by one answer. -/
theorem operationsEndAsTabled : Obligations.OperationsEndAsTabled := by
  refine ⟨fun s t hp hrst h hend => ?_, fun _ _ _ hmay => canEnd_of_mayEnd hmay, rfl, rfl, rfl, rfl, rfl, rfl, rfl,
    statusCode_ne_six⟩
  obtain ⟨st, d, ⟨i, hi, htrace⟩, hmay, hdata, hh⟩ := step_endedAs hp hrst h hend
  exact ⟨st, d, i, htrace, hmay, by rw [htrace, portWords_rsp, portWords_action hi], statusCode_le_of_mayEnd hmay, hdata, hh⟩

end
end

section
/-! Where each row stands in its operation's table: what comes before a write (70_reset_and_hazards R259), which way the table
leads, and where the delays are. -/

namespace Sys2Proof.Machine

open Sys2Proof.Params Sys2Proof.Codec

/-! ### What a row's place says of it -/

/-- The register of the read-modify-write that row `k` of `op` ends, read off its target fields (10_state R32). -/
def writtenAt (op : Op) (k : Nat) : Option Byte := (targetFields op k).head?.map fun F => (fieldPos F).reg

/-- The rows at which an operation other than CALIBRATE requests a delay: those of NEW, of which RESET and ENABLE have the first
ones (42_init_power R165, R167, R168). -/
def delayRows : List Nat := [2, 5, 9]

/-- The action of a row is in its place: a write is the one that the row's target fields speak of, a read comes before any write
of its register, and no other action comes before a write. -/
def Action.Fits (op : Op) (k : Nat) : Action → Prop
  | .read a => writtenAt op (k + 1) = none ∨ writtenAt op (k + 1) = some a
  | .write a _ => writtenAt op k = some a ∧ writtenAt op (k + 1) = none
  | .burst => writtenAt op (k + 1) = none
  | .delay _ => (op = .calibrate ∨ k ∈ delayRows) ∧ writtenAt op (k + 1) = none

/-- Row `k` of `op` can lead to this row: to the next one, but that NEW with External skips two and CALIBRATE polls again. -/
inductive Follows : Op → Nat → Nat → Prop
  | next {op : Op} {k : Nat} : Follows op k (k + 1)
  | skip : Follows .new 15 18
  | poll : Follows .calibrate 3 2

/-- Where the "on answer" column of row `k` goes on, a row follows. -/
def Next.Follows (op : Op) (k : Nat) : Next → Prop
  | .row k' _ => Machine.Follows op k k'
  | _ => True

/-- Whatever the answer, the "on answer" column of row `k` goes on at a row that follows. -/
def LeadsOn (op : Op) (k : Nat) (f : State → Next) : Prop := ∀ u, (f u).Follows op k

section LeadsOn
variable {op : Op} {k : Nat}

theorem LeadsOn.goto {k' : Nat} {edit : State → State} (h : Follows op k k') : LeadsOn op k (fun u => .row k' (edit u)) :=
  fun _ => h

theorem LeadsOn.next {edit : State → State} : LeadsOn op k (fun u => .row (k + 1) (edit u)) := .goto .next

theorem LeadsOn.ret {d : State → Data} {f : State → State} : LeadsOn op k (fun u => .ret (d u) (f u)) := fun _ => trivial

theorem LeadsOn.err {e : State → Err} : LeadsOn op k (fun u => .err (e u) u) := fun _ => trivial

theorem LeadsOn.ite {p : State → Bool} {f g : State → Next} (hf : LeadsOn op k f) (hg : LeadsOn op k g) :
    LeadsOn op k (fun u => if p u then f u else g u) := by
  intro u
  dsimp only
  split
  · exact hf u
  · exact hg u

theorem LeadsOn.ready {f : State → Next} (hf : LeadsOn op k f) : LeadsOn op k (fun u => requireReady u (f u)) :=
  .ite (p := State.pur) hf .err

theorem LeadsOn.revision {f : State → Next} (hf : LeadsOn op k f) : LeadsOn op k (fun u => requireRevision u (f u)) :=
  .ite (p := fun u => revOk u.t) hf .err

end LeadsOn

/-- Row `k` of the table of `op` is in its place. -/
structure Row.InPlace (op : Op) (k : Nat) (r : Row) : Prop where
  leads : LeadsOn op k r.onAnswer
  fits : r.action.Fits op k
  inTable : k < 28

/-! ### The tables -/

section tables
variable {s : State} {op : Op} {k : Nat} {a v : Byte} {f : State → Next}

theorem inPlace_read (hf : LeadsOn op k f)
    (ha : writtenAt op (k + 1) = none ∨ writtenAt op (k + 1) = some a := by decide) (hk : k < 28 := by decide) :
    Row.InPlace op k ⟨.read a, f⟩ := ⟨hf, ha, hk⟩

theorem inPlace_write (hf : LeadsOn op k f) (ha : writtenAt op k = some a ∧ writtenAt op (k + 1) = none := by decide)
    (hk : k < 28 := by decide) : Row.InPlace op k ⟨.write a v, f⟩ := ⟨hf, ha, hk⟩

theorem inPlace_delay {ms : BitVec 10} {k' : Nat} (hf : LeadsOn op k (.row k'))
    (h : (op = .calibrate ∨ k ∈ delayRows) ∧ writtenAt op (k + 1) = none := by decide) (hk : k < 28 := by decide) :
    (delayRow ms k').InPlace op k := ⟨hf, h, hk⟩

theorem resetTable_inPlace : ∀ {k : Nat} {r : Row}, resetTable s k = some r → r.InPlace .reset k
  | 0, _, rfl | 3, _, rfl => inPlace_read .next
  | 1, _, rfl | 4, _, rfl => inPlace_write .next
  | 2, _, rfl | 5, _, rfl => inPlace_delay .next
  | 6, _, rfl => inPlace_read (.ready .ret)
  | _ + 7, _, h => nomatch h

theorem powerDownTable_inPlace : ∀ {k : Nat} {r : Row}, powerDownTable s k = some r → r.InPlace .enable k
  | 0, _, rfl => inPlace_read .next
  | 1, _, rfl => inPlace_write .ret
  | _ + 2, _, h => nomatch h

theorem powerUpTable_inPlace : ∀ {k : Nat} {r : Row}, powerUpTable s k = some r → r.InPlace .enable k
  | 0, _, rfl | 3, _, rfl => inPlace_read .next
  | 1, _, rfl | 4, _, rfl => inPlace_write .next
  | 2, _, rfl => inPlace_delay .next
  | 5, _, rfl => inPlace_read (.ready .ret)
  | _ + 6, _, h => nomatch h

theorem enableTable_inPlace {r : Row} (h : enableTable s k = some r) : r.InPlace .enable k := by
  unfold enableTable at h
  split at h
  · exact powerUpTable_inPlace h
  · exact powerDownTable_inPlace h

theorem availableTable_inPlace : ∀ {k : Nat} {r : Row}, availableTable s k = some r → r.InPlace .available k
  | 0, _, rfl => inPlace_read .ret
  | _ + 1, _, h => nomatch h

theorem readTable_inPlace : ∀ {k : Nat} {r : Row}, readTable s k = some r → r.InPlace .read k
  | 0, _, rfl => ⟨.ret, rfl, by decide⟩
  | _ + 1, _, h => nomatch h

theorem setLdoTable_inPlace : ∀ {k : Nat} {r : Row}, setLdoTable s k = some r → r.InPlace .setLdo k
  | 0, _, rfl => inPlace_read .next
  | 1, _, h => by
      simp only [setLdoTable] at h
      split at h <;> cases h
      · exact inPlace_write .ret
      · exact inPlace_write .next
  | 2, _, h => by
      simp only [setLdoTable] at h
      split at h <;> cases h
      exact inPlace_read .next
  | 3, _, h => by
      simp only [setLdoTable] at h
      split at h <;> cases h
      exact inPlace_write .ret
  | _ + 4, _, h => nomatch h

theorem getLdoTable_inPlace : ∀ {k : Nat} {r : Row}, getLdoTable s k = some r → r.InPlace .getLdo k
  | 0, _, rfl => inPlace_read (.ite .next .ret)
  | 1, _, rfl => inPlace_read .ret
  | _ + 2, _, h => nomatch h

theorem setGainTable_inPlace : ∀ {k : Nat} {r : Row}, setGainTable s k = some r → r.InPlace .setGain k
  | 0, _, rfl => inPlace_read .next
  | 1, _, rfl => inPlace_write .ret
  | _ + 2, _, h => nomatch h

theorem getGainTable_inPlace : ∀ {k : Nat} {r : Row}, getGainTable s k = some r → r.InPlace .getGain k
  | 0, _, rfl => inPlace_read (.ite .ret .err)
  | _ + 1, _, h => nomatch h

theorem setRateTable_inPlace : ∀ {k : Nat} {r : Row}, setRateTable s k = some r → r.InPlace .setRate k
  | 0, _, rfl => inPlace_read .next
  | 1, _, rfl => inPlace_write .ret
  | _ + 2, _, h => nomatch h

theorem getRateTable_inPlace : ∀ {k : Nat} {r : Row}, getRateTable s k = some r → r.InPlace .getRate k
  | 0, _, rfl => inPlace_read (.ite .ret .err)
  | _ + 1, _, h => nomatch h

theorem calibrateTable_inPlace : ∀ {k : Nat} {r : Row}, calibrateTable s k = some r → r.InPlace .calibrate k
  | 0, _, rfl => inPlace_read .next
  | 1, _, rfl => inPlace_write .next
  | 2, _, rfl => inPlace_read (.ite .next (.ite .err .ret))
  | 3, _, rfl => inPlace_delay (.goto .poll)
  | _ + 4, _, h => nomatch h

/-- With External, NEW's row 15 skips rows 16 and 17. -/
theorem newTable_inPlace : ∀ {k : Nat} {r : Row}, newTable s k = some r → r.InPlace .new k
  | 0, _, rfl | 3, _, rfl | 7, _, rfl | 10, _, rfl | 14, _, rfl | 18, _, rfl | 20, _, rfl | 22, _, rfl | 24, _, rfl
  | 26, _, rfl => inPlace_read .next
  | 1, _, rfl | 4, _, rfl | 8, _, rfl | 11, _, rfl | 19, _, rfl | 21, _, rfl | 23, _, rfl | 25, _, rfl => inPlace_write .next
  | 2, _, rfl | 5, _, rfl | 9, _, rfl => inPlace_delay .next
  | 6, _, rfl | 12, _, rfl => inPlace_read (.ready .next)
  | 13, _, rfl => inPlace_read (.revision .next)
  | 15, _, h => by
      cases h
      refine inPlace_write (.goto ?_)
      split
      · exact .skip
      · exact .next
  | 16, _, h => by
      simp only [newTable] at h
      split at h <;> cases h
      exact inPlace_read .next
  | 17, _, h => by
      simp only [newTable] at h
      split at h <;> cases h
      exact inPlace_write .next
  | 27, _, rfl => inPlace_write .ret
  | _ + 28, _, h => nomatch h

/-- Every row of every table is in its place. -/
theorem tableOf_inPlace {r : Row} (h : tableOf op s k = some r) : r.InPlace op k := by
  cases op with
  | new => exact newTable_inPlace h
  | reset => exact resetTable_inPlace h
  | enable => exact enableTable_inPlace h
  | available => exact availableTable_inPlace (s := s) h
  | read => exact readTable_inPlace (s := s) h
  | setLdo => exact setLdoTable_inPlace h
  | getLdo => exact getLdoTable_inPlace (s := s) h
  | setGain => exact setGainTable_inPlace h
  | getGain => exact getGainTable_inPlace (s := s) h
  | setRate => exact setRateTable_inPlace h
  | getRate => exact getRateTable_inPlace (s := s) h
  | calibrate => exact calibrateTable_inPlace h

theorem currentRow_inPlace {r : Row} (h : currentRow s = some r) : r.InPlace s.seq.op s.seq.step :=
  tableOf_inPlace ((currentRow_run (currentRow_ok h).1).symm.trans h)

end tables

/-! ### What an answer leaves as it was -/

section loadAnswer
variable (act : Action) (x : BusAnswer) (s : State)

@[simp] theorem loadAnswer_phase : (loadAnswer act x s).phase = s.phase := by cases act <;> rfl
@[simp] theorem loadAnswer_seq : (loadAnswer act x s).seq = s.seq := by cases act <;> rfl
@[simp] theorem loadAnswer_rst : (loadAnswer act x s).rst = s.rst := by cases act <;> rfl
@[simp] theorem loadAnswer_aLdo : (loadAnswer act x s).aLdo = s.aLdo := by cases act <;> rfl
@[simp] theorem loadAnswer_aPwr : (loadAnswer act x s).aPwr = s.aPwr := by cases act <;> rfl
@[simp] theorem loadAnswer_busIn : (loadAnswer act x s).busIn = s.busIn := by cases act <;> rfl
@[simp] theorem loadAnswer_dlyIn : (loadAnswer act x s).dlyIn = s.dlyIn := by cases act <;> rfl

end loadAnswer

/-! ### Where a row leads -/

/-- Where a row goes on, it has changed nothing but `T`, and the row it goes on to is there. -/
theorem RowOk.onAnswer_row {s u w : State} {op : Op} {k k' : Nat} {r : Row} (hr : RowOk s op k r)
    (h : r.onAnswer u = .row k' w) : RowAhead s op k' ∧ ∃ b, w = u.load b := by
  cases hr with
  | read hf _ =>
    obtain ⟨c, hc, hu, -⟩ := hf u u (.refl op u) rfl
    cases c with
    | goto j b =>
      cases hu.symm.trans h
      exact ⟨hc, b, rfl⟩
    | done _ => cases hu.symm.trans h
    | fail _ => cases hu.symm.trans h
  | write hk _ _ =>
    cases h
    exact ⟨hk, u.t, rfl⟩
  | delay hk _ =>
    cases h
    exact ⟨hk, u.t, rfl⟩
  | lastWrite _ _ => cases h
  | handle _ _ => cases h
  | burst _ _ => cases h

/-- The outstanding row, its answer being in, ends the operation or goes on at a row that follows. -/
theorem commit_onAnswer {s : State} {r : Row} (hr : currentRow s = some r) (u : State) :
    (commit (r.onAnswer u)).phase = .idle ∨
      ∃ k b, r.onAnswer u = .row k (u.load b) ∧ RowAhead s s.seq.op k ∧ Follows s.seq.op s.seq.step k := by
  cases hn : r.onAnswer u with
  | ret v w => exact .inl rfl
  | err e w => exact .inl rfl
  | row k w =>
    obtain ⟨hk, b, rfl⟩ := (currentRow_ok hr).2.onAnswer_row hn
    have hfollows : (r.onAnswer u).Follows _ _ := (currentRow_inPlace hr).leads u
    rw [hn] at hfollows
    exact .inr ⟨k, b, rfl, hk, hfollows⟩

theorem perform_delayFor {r : Row} {ms : BitVec 10} (h : r.action = .delay ms) (s : State) :
    perform r s = delayFor ms r.onAnswer s := by
  rw [perform, h]

/-- A row carried out, with the state that each case leaves: the block waits or discards a late answer, or the answer is loaded and
the "on answer" column follows, or the operation ends. A "done" has no bytes, and no bus answer `x` plays a part in its loading. -/
theorem perform_loads {r : Row} {s t : State} (h : perform r s = .next t) :
    (∃ b d, t = (s.setBusIn b).setDlyIn d) ∨
    (∃ x b d, t = commit (r.onAnswer (loadAnswer r.action x ((s.setBusIn b).setDlyIn d)))) ∨
    t.phase = .idle := by
  cases hact : r.action with
  | delay ms =>
    rw [perform_delayFor hact] at h
    obtain ⟨-, rfl⟩ | ⟨rest, -, rfl⟩ | ⟨rest, -, rfl⟩ := delayFor_cases h
    · exact .inl ⟨t.busIn, t.dlyIn, rfl⟩
    · exact .inl ⟨s.busIn, rest, rfl⟩
    · exact .inr (.inl ⟨successOf 0, s.busIn, rest, rfl⟩)
  | _ =>
    rw [perform_bus (by rw [hact]; rfl), hact] at h
    obtain ⟨-, rfl⟩ | ⟨x, rest, -, rfl⟩ | ⟨x, rest, -, rfl⟩ := awaitBus_cases h
    · exact .inl ⟨t.busIn, t.dlyIn, rfl⟩
    · exact .inl ⟨rest, s.dlyIn, rfl⟩
    · split
      · exact .inr (.inl ⟨x, rest, s.dlyIn, rfl⟩)
      · exact .inr (.inr rfl)

/-! ### Before a write -/

/-- An outstanding write is of the register of its row's target fields, and what it writes is `T`. -/
theorem outstanding_write {s : State} {a v : Byte} (h : outstanding s = some (.write a v)) :
    writtenAt s.seq.op s.seq.step = some a ∧ v = s.t := by
  obtain ⟨r, hr, hact⟩ := outstanding_eq_some h
  have hfits := (currentRow_inPlace hr).fits
  rw [hact] at hfits
  obtain ⟨hat, -⟩ := hfits
  refine ⟨hat, ?_⟩
  obtain ⟨-, hok⟩ := currentRow_ok hr
  cases hok with
  | write _ _ _ | lastWrite _ _ | handle _ _ =>
    cases hact
    rfl
  | _ => cases hact

/-- Only a read of the same register leads to a write. -/
theorem Row.InPlace.reads_of_written {op : Op} {k k' : Nat} {r : Row} {a : Byte} (hr : r.InPlace op k)
    (hk : Follows op k k') (ha : writtenAt op k' = some a) : r.action = .read a := by
  have hfits := hr.fits
  cases hk with
  | skip => cases ha
  | poll => cases ha
  | next =>
    cases hact : r.action with
    | read b => simpa [hact, Action.Fits, ha, eq_comm] using hfits
    | _ => simp [hact, Action.Fits, ha] at hfits

theorem noBlindWrite_of_idle {s : State} (h : s.phase = .idle) : NoBlindWrite s := by
  intro a v hout
  rw [outstanding_idle h] at hout
  cases hout

/-- The first row of an operation is no write. -/
theorem noBlindWrite_accepted (i : Instr) (op : Op) (s : State) : NoBlindWrite (accepted i op s) := by
  intro a v hout
  obtain ⟨hat, -⟩ := outstanding_write hout
  cases op <;> cases hat

/-- What waits at the answer ports has no part in what is outstanding. -/
theorem outstanding_setAnswers (s : State) (b : List BusIn) (d : List DlyIn) :
    outstanding ((s.setBusIn b).setDlyIn d) = outstanding s :=
  congrArg (Option.map Row.action) (currentRow_congr rfl fun _ => ⟨rfl, .refl _ s, fun _ => rfl⟩)

theorem NoBlindWrite.setAnswers {s : State} (h : NoBlindWrite s) (b : List BusIn) (d : List DlyIn) :
    NoBlindWrite ((s.setBusIn b).setDlyIn d) := by
  intro a v hout
  rw [outstanding_setAnswers] at hout
  exact h a v hout

/-- Where the answered row goes on to a write, it was the read of that write's register, and it kept the byte read outside the
target fields. -/
theorem noBlindWrite_commit {s u : State} {r : Row} (hr : currentRow s = some r) (hu : u.seq = s.seq) (x : BusAnswer) :
    NoBlindWrite (commit (r.onAnswer (loadAnswer r.action x u))) := by
  obtain hidle | ⟨k, b, hrow, -, hk⟩ := commit_onAnswer hr (loadAnswer r.action x u)
  · exact noBlindWrite_of_idle hidle
  · have hrest := currentRow_keepsRest hr _ _ _ hrow
    have hseq : (commit (.row k ((loadAnswer r.action x u).load b))).seq = ⟨s.seq.op, k⟩ := by simp [commit, hu]
    rw [hrow]
    intro a v hout
    obtain ⟨hat, hv⟩ := outstanding_write hout
    rw [hseq] at hat ⊢
    rw [hv]
    have hread := (currentRow_inPlace hr).reads_of_written hk hat
    rw [hread] at hrest ⊢
    exact ⟨x.rb0, u.trace, rfl, hrest⟩

end Sys2Proof.Machine

section
open Sys2Proof Sys2Proof.Machine

/-- Settles O53: a write is reached in one way, from the row that reads its register (`noBlindWrite_commit`). -/
theorem stepKeepsNoBlindWrite : Obligations.StepKeepsNoBlindWrite := by
  intro s t hs h
  obtain ⟨-, rfl⟩ | ⟨-, hp, hidle⟩ | ⟨hrst, hp, -⟩ := step_cases h
  · exact noBlindWrite_of_idle rfl
  · cases hidle with
    | waits => exact hs
    | refuses => exact noBlindWrite_of_idle hp
    | accepts _ _ _ _ _ => exact noBlindWrite_accepted _ _ _
  · rw [step_run hp hrst] at h
    cases hr : currentRow s with
    | none => rw [hr] at h; cases h
    | some r =>
      rw [hr] at h
      obtain ⟨b, d, rfl⟩ | ⟨x, b, d, rfl⟩ | hidle := perform_loads h
      · exact hs.setAnswers b d
      · exact noBlindWrite_commit (u := (s.setBusIn b).setDlyIn d) hr rfl x
      · exact noBlindWrite_of_idle hidle

end
end

section
/-! With nothing offered or answered the block waits, and block reset abandons what is outstanding (70_reset_and_hazards R250, R251,
R253, R262). -/

namespace Sys2Proof.Machine

section waiting
variable {s : State} {act : Action} {q : ReqWord} {ms : BitVec 10}

/-- Without block reset, a step with a bus request outstanding takes its answer, or waits for it. -/
theorem step_awaitBus (hrst : s.rst = false) (hout : outstanding s = some act) (hq : requestWord act = some q) :
    ∃ f, step s = awaitBus f s := by
  obtain ⟨r, rfl, -, hstep⟩ := step_outstanding hrst hout
  exact ⟨_, hstep.trans (perform_bus hq s)⟩

/-- Without block reset, a step with a delay outstanding takes its "done", or waits for it. -/
theorem step_delayFor (hrst : s.rst = false) (hout : outstanding s = some (.delay ms)) :
    ∃ f, step s = delayFor ms f s := by
  obtain ⟨r, hact, -, hstep⟩ := step_outstanding hrst hout
  exact ⟨_, hstep.trans (perform_delayFor hact s)⟩

end waiting

/-- Block reset abandons an outstanding bus request at the bus port. -/
theorem blockReset_bus {act : Action} {q : ReqWord} (hq : requestWord act = some q) (s : State) :
    (blockReset (some act) s).busIn = abandonBus s.busIn ∧ (blockReset (some act) s).dlyIn = s.dlyIn := by
  cases act with
  | delay ms => cases hq
  | _ => exact ⟨rfl, rfl⟩

/-- Block reset abandons an outstanding delay at the delay port. -/
theorem blockReset_delay (ms : BitVec 10) (s : State) :
    (blockReset (some (.delay ms)) s).busIn = s.busIn ∧ (blockReset (some (.delay ms)) s).dlyIn = abandonDly s.dlyIn :=
  ⟨rfl, rfl⟩

/-- With nothing outstanding, block reset abandons nothing. -/
theorem blockReset_none (s : State) : (blockReset none s).busIn = s.busIn ∧ (blockReset none s).dlyIn = s.dlyIn := ⟨rfl, rfl⟩

end Sys2Proof.Machine

section
open Sys2Proof Sys2Proof.Machine

/-- Settles O17: in IDLE no word is taken, and in RUN the outstanding row finds its answer port empty. -/
theorem blockWaitsForItsEnvironment : Obligations.BlockWaitsForItsEnvironment := by
  refine ⟨fun s hrst hp hc => step_idle_nil hp hrst hc, fun s ms hrst hout hd => ?_, fun s act q hrst hout hq hb => ?_⟩
  · obtain ⟨f, hstep⟩ := step_delayFor hrst hout
    exact hstep.trans (delayFor_nil hd)
  · obtain ⟨f, hstep⟩ := step_awaitBus hrst hout hq
    exact hstep.trans (awaitBus_nil hb)

/-- Settles O42: block reset goes first, and its state is IDLE. -/
theorem blockResetStopsEverything : Obligations.BlockResetStopsEverything :=
  fun s hrst => ⟨blockReset (outstanding s) s, step_of_rst hrst, rfl, rfl, rfl, outstanding_idle rfl, rfl⟩

/-- Settles O44: block reset marks the answer at the port of the abandoned action as late, and that port discards late answers. -/
theorem abandonedAnswersAreDiscarded : Obligations.AbandonedAnswersAreDiscarded := by
  refine ⟨fun s hrst => ⟨_, step_of_rst hrst, rfl, rfl, fun hp => ?_⟩, fun s act q x rest hrst hout hq hb => ?_,
    fun s ms rest hrst hout hd => ?_, fun s act q x rest hrst hout hq hb => ?_, fun s ms rest hrst hout hd => ?_⟩
  · rw [outstanding_idle hp]
    exact blockReset_none s
  · obtain ⟨hbus, hdly⟩ := blockReset_bus hq s
    exact ⟨_, step_of_rst hrst, by rw [hout, hbus, hb, abandonBus], by rw [hout, hdly]⟩
  · obtain ⟨hbus, hdly⟩ := blockReset_delay ms s
    exact ⟨_, step_of_rst hrst, by rw [hout, hdly, hd, abandonDly], by rw [hout, hbus]⟩
  · obtain ⟨f, hstep⟩ := step_awaitBus hrst hout hq
    exact hstep.trans (awaitBus_late hb)
  · obtain ⟨f, hstep⟩ := step_delayFor hrst hout
    exact hstep.trans (delayFor_late hd)

end
end

section
/-! Every operation but CALIBRATE ends when it is answered (70_reset_and_hazards R262): each answer leads to the end or to a row
further on, and no table is longer than NEW's. -/

namespace Sys2Proof.Machine

/-! ### What waits at a port -/

/-- The first `n` items of `l`, or more, are of the kind `p`. -/
def FirstAre {α : Type} (p : α → Prop) (n : Nat) (l : List α) : Prop := ∃ xs ys, l = xs ++ ys ∧ n ≤ xs.length ∧ ∀ x ∈ xs, p x

section FirstAre
variable {α : Type} {p : α → Prop} {n : Nat} {l : List α}

theorem FirstAre.mono {m : Nat} (h : FirstAre p n l) (hm : m ≤ n) : FirstAre p m l := by
  obtain ⟨xs, ys, hl, hn, hp⟩ := h
  exact ⟨xs, ys, hl, hm.trans hn, hp⟩

theorem FirstAre.uncons (h : FirstAre p (n + 1) l) : ∃ x rest, l = x :: rest ∧ p x ∧ FirstAre p n rest := by
  obtain ⟨_ | ⟨x, xs⟩, ys, rfl, hn, hp⟩ := h
  · cases hn
  · obtain ⟨hx, hxs⟩ := List.forall_mem_cons.mp hp
    exact ⟨x, xs ++ ys, rfl, hx, xs, ys, rfl, Nat.le_of_succ_le_succ hn, hxs⟩

end FirstAre

/-- At least `n` answers wait first at the bus port. -/
abbrev AnswersWait : Nat → List BusIn → Prop := FirstAre fun i => ∃ x, i = .answer x

/-- At least `n` "done"s wait first at the delay port. -/
abbrev DonesWait : Nat → List DlyIn → Prop := FirstAre (· = .done)

theorem answersWait_map (xs : List BusAnswer) (bs : List BusIn) : AnswersWait xs.length (xs.map .answer ++ bs) :=
  ⟨xs.map .answer, bs, rfl, (xs.length_map (f := BusIn.answer)).ge, by simp⟩

theorem donesWait_replicate (m : Nat) (ds : List DlyIn) : DonesWait m (List.replicate m .done ++ ds) :=
  ⟨List.replicate m .done, ds, rfl, List.length_replicate.ge, fun _ => List.eq_of_mem_replicate⟩

/-! ### The rows that are left -/

/-- How many "done"s an operation other than CALIBRATE can still ask for, at row `k`. -/
def delaysFrom (k : Nat) : Nat := delayRows.countP (k ≤ ·)

theorem delaysFrom_anti {k k' : Nat} (h : k ≤ k') : delaysFrom k' ≤ delaysFrom k :=
  List.countP_mono_left fun _ _ hj => decide_eq_true (h.trans (of_decide_eq_true hj))

/-- A delay row uses up one of them. -/
theorem delaysFrom_lt {k k' : Nat} (hk : k ∈ delayRows) (h : k < k') : delaysFrom k' < delaysFrom k := by
  have hrows : ∀ k ∈ delayRows, delaysFrom (k + 1) < delaysFrom k := by decide
  exact (delaysFrom_anti h).trans_lt (hrows k hk)

/-- All rows that follow are further on, but for CALIBRATE's poll. -/
theorem Follows.lt {op : Op} {k k' : Nat} (h : Follows op k k') (hop : op ≠ .calibrate) : k < k' := by
  cases h with
  | next => exact Nat.lt_succ_self k
  | skip => decide
  | poll => exact absurd rfl hop

/-- `s` is at row `k` of an operation other than CALIBRATE, with answers waiting for all the rows that are left. -/
structure Supplied (s : State) (k : Nat) : Prop where
  seqOk : SeqOk s
  run : s.phase = .run
  noReset : s.rst = false
  ends : s.seq.op ≠ .calibrate
  row : s.seq.step = k
  bus : AnswersWait (28 - k) s.busIn
  dly : DonesWait (delaysFrom k) s.dlyIn

/-- The operation at row `k` has ended in `t`, or has gone on and is still supplied. -/
def EndsOrGoesOn (k : Nat) (t : State) : Prop := t.phase = .idle ∨ ∃ k', k < k' ∧ Supplied t k'

section Supplied
variable {s : State} {k : Nat} {r : Row}

/-- The answer to the outstanding row is in, and what is left at the answer ports is enough for every row further on. -/
theorem Supplied.answered (h : Supplied s k) (hr : currentRow s = some r) (x : BusAnswer) {b : List BusIn} {d : List DlyIn}
    (hb : AnswersWait (27 - k) b) (hd : ∀ k', k < k' → DonesWait (delaysFrom k') d) :
    EndsOrGoesOn k (commit (r.onAnswer (loadAnswer r.action x ((s.setBusIn b).setDlyIn d)))) := by
  obtain ⟨-, hp, hrst, hop, rfl, -, -⟩ := h
  obtain hidle | ⟨k', v, hrow, ⟨-, hahead⟩, hfollows⟩ :=
    commit_onAnswer hr (loadAnswer r.action x ((s.setBusIn b).setDlyIn d))
  · exact .inl hidle
  · have hk := hfollows.lt hop
    rw [hrow]
    refine .inr ⟨k', hk, fun hp' => ?_, ?_, ?_, ?_, rfl, ?_, ?_⟩
    · rw [currentRow_run hp', commit]
      simpa using hahead _ (by simp) (by simp)
    · simpa [commit] using hp
    · simpa [commit] using hrst
    · simpa [commit] using hop
    · simpa [commit] using hb.mono (by omega)
    · simpa [commit] using hd k' hk

/-- A bus row takes one of the answers: a failed one ends the operation (60_exceptions R216). -/
theorem Supplied.perform_bus {q : ReqWord} (h : Supplied s k) (hr : currentRow s = some r) (hk : k < 28)
    (hq : requestWord r.action = some q) : ∃ t, perform r s = .next t ∧ EndsOrGoesOn k t := by
  obtain ⟨_, rest, hb, ⟨x, rfl⟩, hrest⟩ := (h.bus.mono (m := 27 - k + 1) (by omega)).uncons
  cases hx : x.ok with
  | true =>
    exact ⟨_, perform_bus_ok hq hb hx, h.answered hr x hrest fun _ hk' => h.dly.mono (delaysFrom_anti hk'.le)⟩
  | false => exact ⟨_, perform_bus_error hq hb hx, .inl rfl⟩

/-- A delay row takes one of the "done"s. -/
theorem Supplied.perform_delay {ms : BitVec 10} (h : Supplied s k) (hr : currentRow s = some r) (hact : r.action = .delay ms) :
    ∃ t, perform r s = .next t ∧ EndsOrGoesOn k t := by
  have hk : k ∈ delayRows := by
    have hfits := (currentRow_inPlace hr).fits
    rw [hact, h.row] at hfits
    obtain ⟨hplace, -⟩ := hfits
    exact hplace.resolve_left h.ends
  obtain ⟨_, rest, hd, rfl, hrest⟩ := (h.dly.mono (delaysFrom_lt hk k.lt_succ_self)).uncons
  have hgoes := h.answered hr (successOf 0) (h.bus.mono (by omega)) fun _ hk' => hrest.mono (delaysFrom_anti hk')
  rw [hact] at hgoes
  exact ⟨_, (perform_delayFor hact s).trans (delayFor_done hd), hgoes⟩

/-- Each step leads to the end or further on, and `k` is a row of NEW's table, the longest. -/
theorem Supplied.step (h : Supplied s k) : k < 28 ∧ ∃ t, step s = .next t ∧ EndsOrGoesOn k t := by
  obtain ⟨r, hr⟩ := Option.isSome_iff_exists.mp (h.seqOk h.run)
  have hk : k < 28 := h.row ▸ (currentRow_inPlace hr).inTable
  have hstep : Machine.step s = perform r s := by rw [step_run h.run h.noReset, hr]; rfl
  rw [hstep]
  refine ⟨hk, ?_⟩
  cases hact : r.action with
  | delay ms => exact h.perform_delay hr hact
  | _ => exact h.perform_bus hr hk (by rw [hact]; rfl)

/-- By induction on the number of rows that are left: each step leads to the end or further on. -/
theorem Supplied.ends_within {m : Nat} : ∀ {s : State} {k : Nat}, Supplied s k → 28 ≤ k + m →
    ∃ n t, 1 ≤ n ∧ n ≤ m ∧ steps n s = .next t ∧ t.phase = .idle := by
  induction m with
  | zero =>
    intro s k h hm
    obtain ⟨hk, -⟩ := h.step
    exact absurd hk (Nat.not_lt.mpr hm)
  | succ m ih =>
    intro s k h hm
    obtain ⟨-, t, hstep, hidle | ⟨k', hk, h'⟩⟩ := h.step
    · exact ⟨1, t, le_rfl, Nat.succ_pos m, steps_succ_next.mpr ⟨t, hstep, rfl⟩, hidle⟩
    · obtain ⟨n, u, -, hn, hrun, hidle⟩ := ih h' (by omega)
      exact ⟨n + 1, u, Nat.succ_pos n, Nat.succ_le_succ hn, steps_succ_next.mpr ⟨t, hstep, hrun⟩, hidle⟩

end Supplied

end Sys2Proof.Machine

section
open Sys2Proof Sys2Proof.Machine

/-- Settles O47: 28 answers and three "done"s are enough from every row. -/
theorem allButCalibrateEnd : Obligations.AllButCalibrateEnd := by
  intro s xs bs ds hseq hp hrst hop hb hxs hd
  have hbus : AnswersWait xs.length s.busIn := hb ▸ answersWait_map xs bs
  have hdly : DonesWait (delaysFrom 0) s.dlyIn := hd ▸ donesWait_replicate 3 ds
  have h : Supplied s s.seq.step :=
    ⟨hseq, hp, hrst, hop, rfl, hbus.mono (by omega), hdly.mono (delaysFrom_anti (Nat.zero_le _))⟩
  exact h.ends_within (Nat.le_add_left 28 _)

end
end
